-- ==== Sys2Proof/Word.lean ====
section
/-! DEFINITION. Word.lean: bytes and counters as the manual gives them widths, and `Bank`, a fixed number of like
records numbered as Table 0-4 numbers them. -/

namespace Sys2Proof

/-- One byte of the host link or of the station bus. -/
abbrev Byte := BitVec 8

/-- The 16-bit CHECK register of R203. -/
abbrev Word16 := BitVec 16

/-- A 32-bit count that wraps: the uptime clock (R1) and the tenths count (R29). -/
abbrev Count32 := BitVec 32

/-- Exactly `n` records, in the order of their numbers. -/
structure Bank (n : Nat) (α : Type) where
  cells : List α
  size_eq : cells.length = n
  deriving DecidableEq, Repr

/-- The record at position `i` (number `i + 1`). -/
def Bank.get {n : Nat} {α : Type} (b : Bank n α) (i : Fin n) : α :=
  b.cells[i.val]'(by rw [b.size_eq]; exact i.isLt)

/-- The bank with the record at `i` replaced. -/
def Bank.set {n : Nat} {α : Type} (b : Bank n α) (i : Fin n) (a : α) : Bank n α :=
  ⟨b.cells.set i.val a, by rw [List.length_set]; exact b.size_eq⟩

/-- The bank with the record at `i` changed by `f`. -/
def Bank.upd {n : Nat} {α : Type} (b : Bank n α) (i : Fin n) (f : α → α) : Bank n α :=
  b.set i (f (b.get i))

/-- `n` equal records. -/
def Bank.fill (n : Nat) {α : Type} (a : α) : Bank n α :=
  ⟨List.replicate n a, List.length_replicate⟩

/-- Every record changed by `f`. -/
def Bank.map {n : Nat} {α β : Type} (b : Bank n α) (f : α → β) : Bank n β :=
  ⟨b.cells.map f, by rw [List.length_map]; exact b.size_eq⟩

/-- The bank whose record at each position is what `f` gives for it. -/
def Bank.tab {n : Nat} {α : Type} (f : Fin n → α) : Bank n α :=
  ⟨(List.finRange n).map f, by rw [List.length_map, List.length_finRange]⟩

/-- Every record changed by `f`, which may read its position. -/
def Bank.mapAt {n : Nat} {α β : Type} (b : Bank n α) (f : Fin n → α → β) : Bank n β :=
  Bank.tab fun i => f i (b.get i)

end Sys2Proof
end

