-- ==== Sys2Proof/Syntax.lean ====
section
/-! DEFINITION. Syntax.lean: the objects of Table 0-4, the enumerated items that requests and events carry, and the
commands of the part: one constructor of `Instr` per row of spec/opcode_table.json. Where a request carries an
enumerated code, the operand is an `Option`: `none` stands for any code that names none of the item's values. -/

namespace Sys2Proof

/-! ### Objects (Table 0-4). Position 0 is number 1. -/

abbrev GroupId := Fin 24
abbrev StationId := Fin 32
abbrev ChannelNo := Fin 8
abbrev PreemptId := Fin 4
abbrev SignId := Fin 4
abbrev AudioId := Fin 8
abbrev AcceptId := Fin 48

/-- A detector channel, written S5/3 in the manual. -/
structure ChannelId where
  station : StationId
  channel : ChannelNo
  deriving DecidableEq, Repr

/-! ### Enumerated items -/

/-- Kinds of a signal group (Table 1-1). -/
inductive Kind where
  | unused | vehicle | pedestrian | arrow
  deriving DecidableEq, Repr

/-- Policies of a green (R12). -/
inductive Policy where
  | held | actuated
  deriving DecidableEq, Repr

/-- Colours of a lamp output. -/
inductive Colour where
  | red | amber | green
  deriving DecidableEq, Repr

/-- Operating modes (Table 5-1). -/
inductive Mode where
  | dark | configure | startFlash | startRed | run | runClosing | flash | failFlash
  deriving DecidableEq, Repr

/-- What a GROUP_FLAGS item does to a flag (R56). -/
inductive FlagChange where
  | set | clear | leave
  deriving DecidableEq, Repr

/-- What a GROUP_FLAGS item does to the demand (R56). -/
inductive CallChange where
  | latch | withdraw | leave
  deriving DecidableEq, Repr

/-- Values of PREEMPT_CALL (R72). -/
inductive CallValue where
  | assert | release
  deriving DecidableEq, Repr

/-- Policies of a fault record (Table 7-3). -/
inductive FaultPolicy where
  | flash | report
  deriving DecidableEq, Repr

/-- Chirp lengths (Table 6-5): 0.5 s and 1.5 s. -/
inductive ChirpLength where
  | short | long
  deriving DecidableEq, Repr

/-- Kinds of a station (Table 8-1). -/
inductive StationKind where
  | none | detector | sign
  deriving DecidableEq, Repr

/-- Operations of CFG_CHANNEL (R163). -/
inductive ChannelOp where
  | add | remove
  deriving DecidableEq, Repr

/-- Actions of an acceptance table entry (Table 9-3). -/
inductive Action where
  | empty | call | extend | callExtend | ped | preempt | forward | discard
  deriving DecidableEq, Repr

/-- Detector event kinds (Table 12-4). -/
inductive EventKind where
  | occupy | vacate | pulse | press | chFault | chOk
  deriving DecidableEq, Repr

/-- Cell depths of a sign (R176). -/
inductive Depth where
  | d1 | d4 | d9
  deriving DecidableEq, Repr

/-- Pages a window may write (R180). -/
inductive WritePage where
  | draft | preempt
  deriving DecidableEq, Repr

/-- Fault kinds (Table 7-3). -/
inductive FaultKind where
  | conflict | shortClear | greenMismatch | outputMismatch | lampLow | lampHigh
  | redOut | hostSilent | stationOffline | stationFault | channelFailed | signFault
  deriving DecidableEq, Repr

/-- Step intervals of a dimming ramp (R114): 2, 5, 10 and 30 s. -/
inductive DimInterval where
  | s2 | s5 | s10 | s30
  deriving DecidableEq, Repr

/-- One item of a GROUP_FLAGS list (R56). -/
structure FlagItem where
  group : Nat
  inhibit : Option FlagChange
  recalls : Option FlagChange
  call : Option CallChange
  deriving DecidableEq, Repr

/-- What CFG_ACCEPT carries for an action other than EMPTY (R169). -/
structure AcceptArg where
  first : Nat
  last : Nat
  channels : List Nat
  kinds : List (Option EventKind)
  operand : List Nat
  deriving DecidableEq, Repr

/-! ### Commands -/

/-- The commands of the part: the host's requests, the inputs of the cabinet and of the two serial lines, and the
moments the part's own timers reach. Times are in tenths of a second unless the name says otherwise. -/
inductive Instr where
  /-- ENTER (R31): `override` is absent in the 2-byte form and for 0xFFFF (R204). -/
  | enter (group : Nat) (policy : Option Policy) (override : Option Nat)
  /-- CANCEL (R34). -/
  | cancel (group : Nat)
  /-- LEAVE (R18). -/
  | leave (group : Nat)
  /-- GROUP_FLAGS (R56). -/
  | groupFlags (items : List FlagItem)
  /-- PREEMPT_CALL (R72). -/
  | preemptCall (channel : Nat) (value : Option CallValue)
  /-- MODE_REQUEST (R90). -/
  | modeRequest (mode : Option Mode)
  /-- CFG_GROUP (R4). -/
  | cfgGroup (group : Nat) (kind : Option Kind) (minGreen maxGreen extUnit clearTime prepTime minRed : Nat)
  /-- CFG_MATRIX_ROW (R26): the clearing group and the pairs of entering group and time. -/
  | cfgMatrixRow (group : Nat) (pairs : List (Nat × Nat))
  /-- CFG_PREEMPT (R68). -/
  | cfgPreempt (channel delay preemptMin trackTime dwellMin : Nat) (track dwell : List Nat) (sign : Nat)
      (failAssert : Option Bool)
  /-- CFG_GLOBAL (R101): `silence` in whole seconds. -/
  | cfgGlobal (startFlash startRed silence : Nat) (hostSilent redOut : Option FaultPolicy)
  /-- CFG_OUTPUT (R108): `iNom` in milliamps. -/
  | cfgOutput (group : Nat) (colour : Option Colour) (dimmable : Option Bool) (iNom : Nat)
  /-- CFG_AUDIO (R118): `group` 0 for absent. -/
  | cfgAudio (audio group tone volume : Nat) (chirp : Option ChirpLength)
  /-- CFG_STATION (R143). -/
  | cfgStation (station : Nat) (kind : Option StationKind) (urgent : Option Bool)
  /-- CFG_BUS (R144): the poll period in milliseconds. -/
  | cfgBus (period : Nat)
  /-- CFG_CHANNEL (R163): `stuckLimit` in minutes. -/
  | cfgChannel (station channel : Nat) (op : Option ChannelOp) (stuckLimit : Nat)
  /-- CFG_ACCEPT (R169): `arg` is absent for EMPTY. -/
  | cfgAccept (index : Nat) (action : Option Action) (arg : Option AcceptArg)
  /-- CFG_SIGN (R177): `station` 0 for absent. -/
  | cfgSign (sign station width height : Nat) (depth : Option Depth)
  /-- CFG_COMMIT (R102). -/
  | cfgCommit
  /-- DIM (R114). -/
  | dim (target : Nat) (interval : Option DimInterval)
  /-- DIM_RESET (R116). -/
  | dimReset
  /-- SIGN_WINDOW (R180). -/
  | signWindow (sign : Nat) (page : Option WritePage) (c0 c1 r0 r1 : Nat)
  /-- SIGN_DATA (R181). -/
  | signData (sign : Nat) (data : List Byte)
  /-- SIGN_SHOW (R182). -/
  | signShow (sign : Nat)
  /-- SIGN_BLANK (R182). -/
  | signBlank (sign : Nat)
  /-- SIGN_RESUME (R187). -/
  | signResume (sign : Nat)
  /-- STATION_RESTORE (R156). -/
  | stationRestore (station : Nat)
  /-- STATION_CLEAR (R157). -/
  | stationClear (station : Nat)
  /-- FAULT_CLEAR (R137): the object as the two bytes of chapter 12. -/
  | faultClear (kind : Option FaultKind) (objectA objectB : Nat)
  /-- GROUP_STATUS (R22). -/
  | groupStatus (group : Nat)
  /-- QUEUE_STATUS (R40). -/
  | queueStatus
  /-- DEMAND_STATUS (R65). -/
  | demandStatus (group : Nat)
  /-- PREEMPT_STATUS (R87). -/
  | preemptStatus (channel : Nat)
  /-- MODE_STATUS (R105). -/
  | modeStatus
  /-- OUTPUT_STATUS (R117). -/
  | outputStatus (group : Nat) (colour : Option Colour)
  /-- AUDIO_STATUS (R123). -/
  | audioStatus (audio : Nat)
  /-- FAULT_STATUS (R140). -/
  | faultStatus
  /-- STATION_STATUS (R158). -/
  | stationStatus (station : Nat)
  /-- CHANNEL_STATUS (R174). -/
  | channelStatus (station channel : Nat)
  /-- ACCEPT_STATUS (R169). -/
  | acceptStatus (index : Nat)
  /-- SIGN_STATUS (R189). -/
  | signStatus (sign : Nat)
  /-- STATUS_SUMMARY (R199). -/
  | statusSummary
  /-- RESET (R200). -/
  | reset
  /-- POWER_ON_RESET (R106): supply is applied. -/
  | powerOnReset
  /-- CAB_RESET (R106): the CAB_RESET line is activated. -/
  | cabReset
  /-- FAULT_RESET (R138): one closure of the push-button contact. -/
  | faultReset
  /-- HOST_BYTE_RECEIVED (R191): a byte from the host; `framingError` when its stop bit is missing. -/
  | hostByteReceived (byte : Byte) (framingError : Bool)
  /-- HOST_INTERBYTE_GAP (R191). -/
  | hostInterbyteGap
  /-- FRAME_SENT (R196): the frame leaving the host line has left it in full. -/
  | frameSent
  /-- PREP_END (R11). -/
  | prepEnd (group : GroupId)
  /-- MINIMUM_GREEN_EVENT (R9). -/
  | minimumGreenEvent (group : GroupId)
  /-- CLEAR_END (R15). -/
  | clearEnd (group : GroupId)
  /-- MIN_RED_REACHED (R7). -/
  | minRedReached (group : GroupId)
  /-- INTERGREEN_BOUND_REACHED (R8): the age of `group` reaches a bound. -/
  | intergreenBoundReached (group : GroupId)
  /-- START_FLASH_END (R94). -/
  | startFlashEnd
  /-- START_RED_END (R94). -/
  | startRedEnd
  /-- CLOSE_ALL_RED_END (R97). -/
  | closeAllRedEnd
  /-- SILENCE_TIMEOUT (R104). -/
  | silenceTimeout
  /-- GAP_EXPIRY (R59). -/
  | gapExpiry (group : GroupId)
  /-- MAX_LIMIT_REACHED (R62). -/
  | maxLimitReached (group : GroupId)
  /-- DELAY_END (R76). -/
  | delayEnd (channel : PreemptId)
  /-- PREEMPT_MIN_REACHED (R78). -/
  | preemptMinReached (group : GroupId)
  /-- TRACK_END (R80). -/
  | trackEnd (channel : PreemptId)
  /-- DWELL_MIN_REACHED (R80). -/
  | dwellMinReached (channel : PreemptId)
  /-- FLASH_HALF_BOUNDARY (R112). -/
  | flashHalfBoundary
  /-- DIM_RAMP_STEP (R115). -/
  | dimRampStep
  /-- CHIRP_END (R122). -/
  | chirpEnd (audio : AudioId)
  /-- SENSED_VOLTAGE_CHANGE (R125): the voltage sense of an output becomes `present`. -/
  | sensedVoltageChange (group : GroupId) (colour : Colour) (present : Bool)
  /-- SETTLE_END (R125). -/
  | settleEnd (group : GroupId) (colour : Colour)
  /-- MISMATCH_TIMEOUT (R125). -/
  | mismatchTimeout (group : GroupId) (colour : Colour)
  /-- CONFLICT_OVERLAP_TIMEOUT (R127): of the pair with the lower group first. -/
  | conflictOverlapTimeout (low high : GroupId)
  /-- CURRENT_CHECK (R129): `measured` is the lamp's current in milliamps. -/
  | currentCheck (group : GroupId) (colour : Colour) (measured : Nat)
  /-- CYCLE_BOUNDARY (R145). -/
  | cycleBoundary
  /-- HALF_BOUNDARY (R145). -/
  | halfBoundary
  /-- STATION_FRAME_SENT (R148): the request frame to a station ends. -/
  | stationFrameSent
  /-- STATION_REPLY (R148): the bytes of a reply whose last byte has arrived. -/
  | stationReply (bytes : List Byte)
  /-- STATION_REPLY_GAP (R148). -/
  | stationReplyGap
  /-- REPLY_WINDOW_TIMEOUT (R148). -/
  | replyWindowTimeout
  /-- RESET_GUARD_END (R161). -/
  | resetGuardEnd
  /-- STUCK_LIMIT_EXPIRY (R166). -/
  | stuckLimitExpiry (channel : ChannelId)
  deriving DecidableEq, Repr

end Sys2Proof
end

