-- ==== Sys2Proof/Config.lean ====
section
/-! DEFINITION. Config.lean: the constants the manual fixes, and the values it leaves open, as opaque constants. -/

namespace Sys2Proof

/-! ### Constants of the manual -/

/-- Ages and green_elapsed saturate at 250.0 s (Table 1-1). -/
def Config.ageLimit : Nat := 2500
/-- The largest intergreen time, 25.0 s (R24). -/
def Config.intergreenLimit : Nat := 250
/-- Entries the queue holds (R30). -/
def Config.queueLimit : Nat := 16
/-- Notices the notice queue holds (R197). -/
def Config.noticeLimit : Nat := 64
/-- Records the fault table holds (R134). -/
def Config.faultLimit : Nat := 24
/-- Channels that may be configured (R163). -/
def Config.channelLimit : Nat := 64
/-- Cells a sign may have (R176). -/
def Config.cellLimit : Nat := 4096
/-- Cells of a chunk (R176). -/
def Config.chunkCells : Nat := 64
/-- The settle time of a voltage comparison in milliseconds (R125). -/
def Config.settleMs : Nat := 150
/-- The length of a disagreement that is a mismatch, in milliseconds (R125). -/
def Config.mismatchMs : Nat := 300
/-- The length of an overlap that is a conflict, in milliseconds (R127). -/
def Config.overlapMs : Nat := 200
/-- The time a clearance may fall short of clear_time, in milliseconds (R128). -/
def Config.clearSlackMs : Nat := 200
/-- The first current check after ON, in milliseconds (R129). -/
def Config.firstCheckMs : Nat := 500
/-- The interval of the further checks, in milliseconds (R129). -/
def Config.nextCheckMs : Nat := 1000
/-- The check in a lit half, in milliseconds after its start (R129). -/
def Config.litCheckMs : Nat := 200
/-- A half of the flash phase in milliseconds (R112). -/
def Config.flashHalfMs : Nat := 500
/-- The reply window in milliseconds (R148). -/
def Config.windowMs : Nat := 8
/-- The time without grants after a link reset, in milliseconds (R161). -/
def Config.guardMs : Nat := 8
/-- The longest gap inside a host frame, in milliseconds (R191). -/
def Config.hostGapMs : Nat := 5
/-- The score of the warning (R154). -/
def Config.warnScore : Nat := 96
/-- The score of the reduced rate (R154). -/
def Config.slowScore : Nat := 128
/-- The limit of the score (R154). -/
def Config.scoreLimit : Nat := 255
/-- What an error adds to the score (R154). -/
def Config.errorScore : Nat := 8
/-- How many zero-time consequences one command may have in the signal core; more than can follow one another
at one moment. DESIGN CHOICE (log entry 17). -/
def Config.settleSteps : Nat := 128

/-! ### Values the manual leaves open -/

/-- Which of several causes that fall on one moment is taken first, where the manual says that either may be
(R13, R96). A free value: nothing is known of it. Log entry 7. -/
opaque Config.firstTaken : Nat → Nat

/-- The LENGTH byte of a frame whose KIND and BODY are more than 250 bytes, for which the manual has no LENGTH
(a FAULT_STATUS reply of more than 17 records). A free value. Log entry 8. -/
opaque Config.longLength : Nat → Byte

/-- What a two-byte field carries for a value of more than 65535: the time OCCUPIED of CHANNEL_STATUS, and the phase timer
of a DWELL in PREEMPT_STATUS. A free value. Log entry 9. -/
opaque Config.wideField : Nat → Word16

end Sys2Proof
end

