-- ==== Sys2Proof/Machine/State.lean ====
section
/-! DEFINITION. Machine/State.lean: everything the manual gives the part to hold, block by block (Table 0-1), the
reasons a step can stop, and the state after a power-on reset. Times are whole tenths of a second unless the field's
comment says milliseconds. Fields marked "model's own" are not fields of the manual's records. -/

namespace Sys2Proof.Machine

/-! ### Configuration (chapter 5 and each owning chapter) -/

/-- The configured fields of a group (Table 1-1). -/
structure GroupCfg where
  kind : Kind
  minGreen : Nat
  maxGreen : Nat
  extUnit : Nat
  clearTime : Nat
  prepTime : Nat
  minRed : Nat
  deriving DecidableEq, Repr

/-- The configured fields of a preemption channel (Table 4-1). -/
structure PreemptCfg where
  delay : Nat
  preemptMin : Nat
  track : List GroupId
  trackTime : Nat
  dwell : List GroupId
  dwellMin : Nat
  sign : Option SignId
  failAssert : Bool
  deriving DecidableEq, Repr

/-- The global settings (Table 5-5); `silence` in whole seconds. -/
structure GlobalCfg where
  startFlash : Nat
  startRed : Nat
  silence : Nat
  hostSilent : FaultPolicy
  redOut : FaultPolicy
  deriving DecidableEq, Repr

/-- The configured fields of a lamp output (Table 6-1); `iNom` in milliamps. -/
structure OutputCfg where
  dimmable : Bool
  iNom : Nat
  deriving DecidableEq, Repr

/-- One record for each colour of a group. -/
structure Trio (α : Type) where
  red : α
  amber : α
  green : α
  deriving DecidableEq, Repr

/-- The configured fields of an audible output (Table 6-5). -/
structure AudioCfg where
  group : Option GroupId
  tone : Nat
  volume : Nat
  chirp : ChirpLength
  deriving DecidableEq, Repr

/-- The configured fields of a station (Table 8-1). -/
structure StationCfg where
  kind : StationKind
  urgent : Bool
  deriving DecidableEq, Repr

/-- An acceptance table entry (Table 9-3). Of the operand, `groups` is used by CALL, EXTEND, CALL_EXTEND and PED,
and `channel` by PREEMPT. -/
structure AcceptEntry where
  action : Action
  first : StationId
  last : StationId
  channels : List ChannelNo
  kinds : List EventKind
  groups : List GroupId
  channel : Option PreemptId
  deriving DecidableEq, Repr

/-- The configured fields of a sign (Table 10-1). -/
structure SignCfg where
  station : Option StationId
  width : Nat
  height : Nat
  depth : Depth
  deriving DecidableEq, Repr

/-- One copy of the configuration: the values of every CFG_ message. `channels` holds the stuck_limit in minutes of
each configured detector channel. `pollPeriod` is in milliseconds. -/
structure Configuration where
  groups : Bank 24 GroupCfg
  matrix : Bank 24 (Bank 24 (Option Nat))
  preempt : Bank 4 PreemptCfg
  global : GlobalCfg
  outputs : Bank 24 (Trio OutputCfg)
  audio : Bank 8 AudioCfg
  stations : Bank 32 StationCfg
  pollPeriod : Nat
  channels : Bank 32 (Bank 8 (Option Nat))
  accept : Bank 48 AcceptEntry
  signs : Bank 4 SignCfg
  deriving DecidableEq, Repr

/-- An EMPTY entry of the acceptance table (R169). -/
def AcceptEntry.blank : AcceptEntry :=
  ⟨.empty, 0, 0, [], [], [], none⟩

/-- The empty configuration (Table 5-4, R22, R70, R109, R119, R144, R163, R169, R177). -/
def Configuration.blank : Configuration where
  groups := Bank.fill 24 ⟨.unused, 20, 20, 0, 30, 0, 0⟩
  matrix := Bank.fill 24 (Bank.fill 24 none)
  preempt := Bank.fill 4 ⟨0, 0, [], 0, [], 0, none, false⟩
  global := ⟨30, 20, 0, .report, .report⟩
  outputs := Bank.fill 24 ⟨⟨false, 50⟩, ⟨false, 50⟩, ⟨false, 50⟩⟩
  audio := Bank.fill 8 ⟨none, 1, 1, .short⟩
  stations := Bank.fill 32 ⟨.none, false⟩
  pollPeriod := 200
  channels := Bank.fill 32 (Bank.fill 8 none)
  accept := Bank.fill 48 AcceptEntry.blank
  signs := Bank.fill 4 ⟨none, 8, 8, .d1⟩

/-! ### Clocks -/

/-- The uptime clock (R1), the tenths count (R29), and how far the present second has run (model's own: `ms`, 0 to
999 milliseconds). -/
structure Clock where
  uptime : Count32
  tenths : Count32
  ms : Nat
  deriving DecidableEq, Repr

/-! ### Group Sequencer (chapter 1) -/

/-- States of a group (Table 1-1). -/
inductive GroupState where
  | off | flash | red | prep | green | clear
  deriving DecidableEq, Repr

/-- Reasons of an end of green (R20). -/
inductive Reason where
  | leave | gap | max | preempt | close | fail
  deriving DecidableEq, Repr

/-- The running, green and flag fields of a group record (Table 1-1). `minGreenPassed` (model's own) says that the
minimum-green event of the green in progress has been taken. -/
structure Group where
  state : GroupState
  prepTimer : Nat
  greenElapsed : Nat
  minGreenPassed : Bool
  clearTimer : Nat
  redAge : Nat
  greenEndAge : Nat
  lastReason : Option Reason
  policy : Option Policy
  maxOverride : Option Nat
  leavePending : Bool
  inhibit : Bool
  recalls : Bool
  deriving DecidableEq, Repr

/-- A group record after a power-on reset (Table 1-8). -/
def Group.fresh : Group :=
  ⟨.off, 0, 0, false, 0, 0, 0, none, none, none, false, false, false⟩

/-! ### Entry Supervisor (chapter 2) -/

/-- Who placed an entry (Table 2-3). -/
inductive Origin where
  | host
  | preempt (channel : PreemptId)
  deriving DecidableEq, Repr

/-- An entry of the queue (Table 2-3). -/
structure Entry where
  group : GroupId
  origin : Origin
  policy : Policy
  maxOverride : Option Nat
  queuedAt : Count32
  deriving DecidableEq, Repr

/-! ### Demand Unit (chapter 3) -/

/-- The set of sources of a demand (R49). -/
structure Sources where
  detector : Bool
  host : Bool
  recalls : Bool
  failed : Bool
  deriving DecidableEq, Repr

/-- Why a channel stands in a hold set (R54). -/
inductive HoldCause where
  | occupied | failed
  deriving DecidableEq, Repr

/-- The gap timer of an ACTUATED green (Table 3-4). -/
inductive GapTimer where
  | holding
  | running (left : Nat)
  | expired
  deriving DecidableEq, Repr

/-- The timers of an ACTUATED green (R58): `elapsed` is absent while NOT_STARTED. -/
structure GreenTimers where
  gap : GapTimer
  elapsed : Option Nat
  limit : Nat
  deriving DecidableEq, Repr

/-- A demand record (Table 3-1). The demand is LATCHED while the set of sources is not empty. -/
structure Demand where
  sources : Sources
  failedRecall : Nat
  hold : List (ChannelId × HoldCause)
  timers : Option GreenTimers
  deriving DecidableEq, Repr

/-- A demand record after either reset (Table 3-5). -/
def Demand.fresh : Demand :=
  ⟨⟨false, false, false, false⟩, 0, [], none⟩

/-! ### Preemption Unit (chapter 4) -/

/-- States of a preemption channel (Table 4-5). -/
inductive ChanState where
  | idle | pending | delay | clearing | track | dwell
  deriving DecidableEq, Repr

/-- Causes of a member of a detector source (Table 4-1). -/
inductive SourceCause where
  | occupied | pressed | failed
  deriving DecidableEq, Repr

/-- The running fields of a preemption channel (Table 4-1). -/
structure Preempt where
  state : ChanState
  host : Bool
  sources : List (ChannelId × SourceCause)
  overridden : Bool
  phase : Option Nat
  truncated : Nat
  deriving DecidableEq, Repr

/-- A preemption channel after either reset (Table 4-8). -/
def Preempt.fresh : Preempt :=
  ⟨.idle, false, [], false, none, 0⟩

/-! ### Mode Controller (chapter 5) -/

/-- Stages of a close (Table 5-1). -/
inductive CloseStage where
  | draining | allRed
  deriving DecidableEq, Repr

/-- The silence timer (Table 5-1). -/
inductive Silence where
  | stopped
  | running (elapsed : Nat)
  | expired
  deriving DecidableEq, Repr

/-- The mode record (Table 5-1), but for the two copies of the configuration. -/
structure ModeRec where
  mode : Mode
  enteredFrom : Option Mode
  phase : Option Nat
  stage : Option CloseStage
  silence : Silence
  deriving DecidableEq, Repr

/-! ### Lamp Driver (chapter 6) and the Output Monitor's record of each output (chapter 7) -/

/-- Commanded states of an output (R107). -/
inductive Command where
  | off | on | flashing
  deriving DecidableEq, Repr

/-- Health of an output (R131). -/
inductive Health where
  | ok | low | high
  deriving DecidableEq, Repr

/-- A lamp output (Tables 6-1 and 7-1). `settle` is the time left until the settle end, `mismatch` the time since
"mismatch since", `checkIn` the time left until the next scheduled current check, all in milliseconds.
`dutyChanged` says that the duty has changed since the previous check moment (R129). -/
structure Output where
  commanded : Command
  duty : Nat
  sensed : Bool
  lastCurrent : Option Nat
  lowCount : Nat
  highCount : Nat
  bandCount : Nat
  health : Health
  expected : Bool
  settle : Option Nat
  mismatch : Option Nat
  standing : Bool
  checkIn : Option Nat
  dutyChanged : Bool
  deriving DecidableEq, Repr

/-- An output after a power-on reset, sensed absent (Tables 6-7 and 7-5; the sense is log entry 10). -/
def Output.fresh : Output :=
  ⟨.off, 100, false, none, 0, 0, 0, .ok, false, none, none, false, none, false⟩

/-- A dimming ramp (R114): `left` is the time to its next step. -/
structure Ramp where
  target : Nat
  interval : DimInterval
  left : Nat
  deriving DecidableEq, Repr

/-- The dimming level and its ramp (R113, R114). -/
structure Dimming where
  level : Nat
  ramp : Option Ramp
  deriving DecidableEq, Repr

/-- The flash phase (R112): in a lit half or not, and the milliseconds run of that half. -/
structure FlashPhase where
  lit : Bool
  ms : Nat
  deriving DecidableEq, Repr

/-- Patterns of an audible output (Table 6-6). -/
inductive Pattern where
  | silent | locate | walk | chirp
  deriving DecidableEq, Repr

/-- The running fields of an audible output (Table 6-5), and the milliseconds of the present second of its pattern,
from which its ticks sound (R120). -/
structure Audio where
  pattern : Pattern
  chirpLeft : Nat
  volume : Nat
  patternMs : Nat
  deriving DecidableEq, Repr

/-! ### Output Monitor (chapter 7) -/

/-- An overlap of two conflicting greens (R127), in milliseconds, the lower group first; `standing` once its CONFLICT
has been raised. -/
structure Overlap where
  low : GroupId
  high : GroupId
  ms : Nat
  standing : Bool
  deriving DecidableEq, Repr

/-- The measurement of a clearance (R128), in milliseconds while it runs. -/
inductive Clearance where
  | none
  | armed
  | running (ms : Nat)
  deriving DecidableEq, Repr

/-- A fault object as its two bytes (chapter 12). -/
structure FaultObject where
  a : Nat
  b : Nat
  deriving DecidableEq, Repr

/-- A condition that stands (R133): its kind, the policy it was raised with, and its object. -/
structure Condition where
  kind : FaultKind
  policy : FaultPolicy
  object : FaultObject
  deriving DecidableEq, Repr

/-- States of a fault record (Table 7-4). -/
inductive FaultState where
  | active | latched | cleared
  deriving DecidableEq, Repr

/-- A fault record (Table 7-4). -/
structure FaultRecord where
  kind : FaultKind
  policy : FaultPolicy
  object : FaultObject
  state : FaultState
  firstSeen : Count32
  lastSeen : Count32
  occurrences : Nat
  deriving DecidableEq, Repr

/-- What the Output Monitor holds beside the outputs' records and the fault table. -/
structure Monitor where
  overlaps : List Overlap
  clearance : Bank 24 Clearance
  conditions : List Condition
  deriving DecidableEq, Repr

/-! ### Station Bus Controller (chapter 8) -/

/-- States of a station in Table 8-5. -/
inductive StationState where
  | polling | degraded | offline | suspended
  deriving DecidableEq, Repr

/-- The running fields of a station (Table 8-1). The state is absent for kind NONE. `next due` is computed from the
cycle clock (log entry 20). -/
structure Station where
  state : Option StationState
  score : Nat
  retries : Nat
  due : Bool
  cycle : Nat
  warned : Bool
  deriving DecidableEq, Repr

/-- A station record of kind NONE, and every one after a power-on reset (Table 8-6). -/
def Station.fresh : Station :=
  ⟨none, 0, 0, false, 0, false⟩

/-- What a transaction asks (section 8.4). -/
inductive Job where
  | poll
  | chunk (sign : SignId) (index : Nat)
  | flip (sign : SignId)
  deriving DecidableEq, Repr

/-- The transaction in flight: the request frame on the line, then, with `window`, the milliseconds run of the open
reply window; `waits` counts its WAIT replies (R149). `stale` marks a transaction of a station whose kind a commit
has changed (R160), and `restartOnly` one whose sign a commit has restarted or made absent: its outcome acts on the
sign only through restart pending (R179). Both marks are the model's own. -/
structure Transaction where
  station : StationId
  job : Job
  frame : List Byte
  window : Option Nat
  waits : Nat
  stale : Bool
  restartOnly : Bool
  deriving DecidableEq, Repr

/-- The cycle clock (R145) in milliseconds since its last cycle boundary, whether the half boundary of the cycle has
been taken, the transaction in flight, the sign served last (R147), and the time left of the 8 ms after a link reset
(R161). -/
structure Bus where
  cycleMs : Nat
  halfDone : Bool
  transaction : Option Transaction
  lastServed : Option SignId
  guardLeft : Option Nat
  deriving DecidableEq, Repr

/-! ### Detector Unit (chapter 9) -/

/-- States of a detector channel (Table 9-1). -/
inductive DetState where
  | idle | occupied | failed
  deriving DecidableEq, Repr

/-- Causes of a failed channel (Table 9-1). -/
inductive FailCause where
  | chFault | stuck | station
  deriving DecidableEq, Repr

/-- What a failure names (R167). -/
inductive Named where
  | groups (list : List GroupId)
  | channel (channel : PreemptId)
  deriving DecidableEq, Repr

/-- The running fields of a detector channel (Table 9-1). -/
structure Channel where
  state : DetState
  cause : Option FailCause
  occupiedSince : Option Count32
  pulses : Nat
  named : Option Named
  deriving DecidableEq, Repr

/-- A channel that starts IDLE (R173, Table 9-5). -/
def Channel.fresh : Channel :=
  ⟨.idle, none, none, 0, none⟩

/-! ### Sign Store (chapter 10) -/

/-- The showing selector of a sign (Table 10-1). -/
inductive Showing where
  | active | preempt
  deriving DecidableEq, Repr

/-- States of a transfer (Table 10-3). -/
inductive TransferState where
  | idle | sending | suspended
  deriving DecidableEq, Repr

/-- The window of a sign (R180) with its pointer. -/
structure Window where
  page : WritePage
  c0 : Nat
  c1 : Nat
  r0 : Nat
  r1 : Nat
  col : Nat
  row : Nat
  deriving DecidableEq, Repr

/-- The running fields of a sign (Table 10-1). A page is its cells in row-major order. -/
structure Sign where
  draft : List Nat
  active : List Nat
  preempt : List Nat
  window : Window
  showing : Showing
  transfer : TransferState
  image : Option (List Nat)
  imagePage : Option Showing
  chunk : Option Nat
  restart : Bool
  deriving DecidableEq, Repr

/-- The default window of a page `width` by `height` (R179). -/
def Window.whole (width height : Nat) : Window :=
  ⟨.draft, 0, width - 1, 0, height - 1, 0, 0⟩

/-- A sign whose pages are dark and whose transfer is IDLE (Tables 10-2 and 10-4). -/
def Sign.fresh (width height : Nat) : Sign :=
  let dark := List.replicate (width * height) 0
  ⟨dark, dark, dark, Window.whole width height, .active, .idle, none, none, none, false⟩

/-! ### Link Interface (chapter 11) -/

/-- Result codes (Table 11-2). -/
inductive Result where
  | ok | clamped | deferred | merged
  | badKind | badLength | badIndex | wrongMode | notConfigured | faultLatched | invalidConfig | preempted
  | inhibited | alreadyGreen | queueFull | tooLate | notQueued | notGreen | notOffline | notSuspended
  | notLatched | localOnly
  deriving DecidableEq, Repr

/-- Outcomes of ENTRY_DONE (Table 2-6). -/
inductive EntryOutcome where
  | granted | cancelledByPreempt | cancelledByMode
  deriving DecidableEq, Repr

/-- Causes of PREEMPT (Table 4-7). -/
inductive PreemptCause where
  | asserted | released | started | delayEnd | trackStart | dwellStart | exit | displaced | abandoned | commit
  deriving DecidableEq, Repr

/-- Causes of MODE (R105). -/
inductive ModeCause where
  | request | timer | fault | faultCleared | commit
  deriving DecidableEq, Repr

/-- Causes of STATION (R159). -/
inductive StationCause where
  | warning | degraded | recovered | offline | suspended | restored | cleared | commit
  deriving DecidableEq, Repr

/-- Causes of CHANNEL (R168). -/
inductive ChannelCause where
  | chFault | stuck | station | chOk | vacate | recovered
  deriving DecidableEq, Repr

/-- Causes of SIGN (R188). -/
inductive SignCause where
  | started | restarted | suspended | resumed | flipped
  deriving DecidableEq, Repr

/-- The contents of a notice, by kind (Table 11-4 and the owning rules). -/
inductive NoticeBody where
  /-- MODE (R105). -/
  | mode (after before : Mode) (cause : ModeCause) (committed : Bool)
  /-- DEMAND (R64). -/
  | demand (group : GroupId) (sources : Sources)
  /-- ENTRY_DONE (R47). -/
  | entryDone (group : GroupId) (origin : Origin) (policy : Policy) (outcome : EntryOutcome)
  /-- GREEN_END (R63): `maxStarted` is present for an ACTUATED green. -/
  | greenEnd (group : GroupId) (reason : Reason) (policy : Option Policy) (duration : Nat)
      (maxStarted : Option Bool) (latched : Bool)
  /-- PREEMPT (R86). -/
  | preempt (channel : PreemptId) (state : ChanState) (cause : PreemptCause) (overridden host : Bool)
      (occupied pressed failed truncated : Nat)
  /-- FAULT (R139). -/
  | fault (record : FaultRecord)
  /-- STATION (R159). -/
  | station (station : StationId) (kind : StationKind) (state : Option StationState) (score : Nat)
      (cause : StationCause)
  /-- CHANNEL (R168). -/
  | channel (channel : ChannelId) (state : DetState) (cause : ChannelCause) (named : Option Named)
  /-- SIGN (R188). -/
  | sign (sign : SignId) (station : Option StationId) (transfer : TransferState) (cause : SignCause)
      (showing : Showing) (imagePage : Option Showing) (chunk : Option Nat) (chunkCount : Nat) (restart : Bool)
  /-- FORWARD (R171). -/
  | forward (channel : ChannelId) (kind : EventKind) (state : DetState) (merged : Nat)
  /-- LINK_ERROR (R192). -/
  | linkError (count : Nat)
  /-- OVERRUN (R193). -/
  | overrun (count : Nat)
  /-- RESET_DONE (R200). -/
  | resetDone (mode : Mode) (committed discarded : Bool) (uptime : Count32)
  deriving DecidableEq, Repr

/-- A notice with its stamp (Table 12-7). -/
structure Notice where
  stamp : Count32
  body : NoticeBody
  deriving DecidableEq, Repr

/-- A reply (R195): the KIND of its request, its result code, and the items after it. -/
structure Reply where
  kind : Byte
  result : Result
  items : List Byte
  deriving DecidableEq, Repr

/-- What the Link Interface makes of a valid frame before it is passed on (R194). -/
inductive Judged where
  | badKind
  | badLength
  | request (i : Instr)
  deriving DecidableEq, Repr

/-- A valid frame from the host: its KIND and what its KIND and BODY stand for. -/
structure HostFrame where
  kind : Byte
  judged : Judged
  deriving DecidableEq, Repr

/-- The request in process (R193) with its reply, and whether that reply has begun to leave. -/
structure InProcess where
  frame : HostFrame
  reply : Reply
  begun : Bool
  deriving DecidableEq, Repr

/-- The frame that is leaving the host line (R196). -/
inductive Sending where
  | reply (reply : Reply)
  | notice (notice : Notice)
  | overflow (stamp : Count32) (count : Nat)
  deriving DecidableEq, Repr

/-- The Link Interface (Table 11-1, R197, R198). `receiver` is absent in HUNT and holds the bytes so far in FRAME;
`gapMs` is the milliseconds since the last of them. -/
structure Link where
  receiver : Option (List Byte)
  gapMs : Nat
  inProcess : Option InProcess
  holding : Option HostFrame
  linkErrors : Nat
  overruns : Nat
  notices : List Notice
  overflowCount : Nat
  overflowFlag : Bool
  marker : Bool
  sending : Option Sending
  deriving DecidableEq, Repr

/-- The Link Interface after a power-on reset (Table 11-5). The table has no row for a frame that is leaving the line.
DESIGN CHOICE (log entry 40): it is dropped, and the line is idle. -/
def Link.fresh : Link :=
  ⟨none, 0, none, none, 0, 0, [], 0, false, false, none⟩

/-! ### The whole state -/

/-- The state of the part, and the commands that wait (first in, first out). `choices` (model's own) counts the free
choices taken so far (log entry 7). -/
structure State where
  clock : Clock
  mode : ModeRec
  committed : Option Configuration
  working : Option Configuration
  groups : Bank 24 Group
  queue : List Entry
  demand : Bank 24 Demand
  preempt : Bank 4 Preempt
  outputs : Bank 24 (Trio Output)
  dimming : Dimming
  flash : FlashPhase
  audio : Bank 8 Audio
  monitor : Monitor
  faults : List FaultRecord
  stations : Bank 32 Station
  bus : Bus
  channels : Bank 32 (Bank 8 Channel)
  signs : Bank 4 Sign
  link : Link
  choices : Nat
  pending : List Instr
  deriving DecidableEq, Repr

/-- Reasons the part could stop with. The manual has no event that stops the part: every fault of chapter 7 is a
record in the fault table, and the part goes on. -/
inductive Fault where
  /-- Raised by nobody. Safe: no command ends in it. -/
  | none
  deriving DecidableEq, Repr

/-- Reasons a command has no meaning. -/
inductive Refusal where
  /-- Raised by the arm of a command that has no meaning yet; no arm of this model is one. Safe. -/
  | notModelled (mnemonic : String)
  deriving DecidableEq, Repr

/-- The part after a power-on reset (Tables 1-8, 2-7, 3-5, 4-8, 5-7, 6-7, 7-5, 8-6, 9-5, 10-4 and 11-5, R1, R29),
with every voltage sensed absent (log entry 10) and no command waiting. -/
def State.reset : State where
  clock := ⟨0, 0, 0⟩
  mode := ⟨.dark, none, none, none, .stopped⟩
  committed := none
  working := none
  groups := Bank.fill 24 Group.fresh
  queue := []
  demand := Bank.fill 24 Demand.fresh
  preempt := Bank.fill 4 Preempt.fresh
  outputs := Bank.fill 24 ⟨Output.fresh, Output.fresh, Output.fresh⟩
  dimming := ⟨1, none⟩
  flash := ⟨true, 0⟩
  audio := Bank.fill 8 ⟨.silent, 0, 1, 0⟩
  monitor := ⟨[], Bank.fill 24 .none, []⟩
  faults := []
  stations := Bank.fill 32 Station.fresh
  bus := ⟨0, false, none, none, none⟩
  channels := Bank.fill 32 (Bank.fill 8 Channel.fresh)
  signs := Bank.fill 4 (Sign.fresh 8 8)
  link := Link.fresh
  choices := 0
  pending := []

end Sys2Proof.Machine
end

