-- ==== Sys2Proof/Machine/Operands.lean ====
section
/-! DEFINITION. Machine/Operands.lean: numbers and objects, the codes of the enumerated items (R202, Tables 12-2,
12-3 and 12-4), and the bytes in which items stand in bodies and notices. -/

namespace Sys2Proof.Machine

/-! ### Objects and their numbers (Table 0-4) -/

/-- The object with the given number, among `n` objects numbered from 1. -/
def objectOf (n number : Nat) : Option (Fin n) :=
  if h : 1 ≤ number ∧ number ≤ n then some ⟨number - 1, by omega⟩ else none

/-- The number of an object. -/
def numberOf {n : Nat} (i : Fin n) : Nat := i.val + 1

/-- The objects with the given numbers, when every number names one. -/
def objectsOf (n : Nat) : List Nat → Option (List (Fin n))
  | [] => some []
  | k :: rest =>
    match objectOf n k, objectsOf n rest with
    | some i, some is => some (i :: is)
    | _, _ => none

/-- The list holds no member twice. -/
def allDistinct {α : Type} [DecidableEq α] : List α → Bool
  | [] => true
  | a :: rest => !rest.contains a && allDistinct rest

/-- A value brought within a range (section 0.8.6). -/
def clampTo (low high value : Nat) : Nat :=
  if value < low then low else if value > high then high else value

/-- How many of the pairs hold two different values: the count of CLAMPED. -/
def changedCount : List (Nat × Nat) → Nat
  | [] => 0
  | (sent, stored) :: rest => (if sent = stored then 0 else 1) + changedCount rest

/-! ### Bytes of items (R202) -/

/-- One byte. -/
def byte1 (n : Nat) : List Byte := [BitVec.ofNat 8 n]

/-- A 16-bit value, high byte first. -/
def word2 (w : Word16) : List Byte := [BitVec.ofNat 8 (w.toNat / 256), BitVec.ofNat 8 w.toNat]

/-- A two-byte item, high byte first; a value of more than 65535 has no encoding (log entry 9): the time a detector
channel has been OCCUPIED, and the phase timer of a DWELL held asserted. -/
def byte2 (n : Nat) : List Byte :=
  word2 (if n < 65536 then BitVec.ofNat 16 n else Config.wideField n)

/-- A four-byte item, high byte first. -/
def byte4 (c : Count32) : List Byte :=
  [BitVec.ofNat 8 (c.toNat / 16777216), BitVec.ofNat 8 (c.toNat / 65536), BitVec.ofNat 8 (c.toNat / 256),
    BitVec.ofNat 8 c.toNat]

/-- A flag or a yes-or-no item. -/
def flag1 (b : Bool) : List Byte := byte1 (if b then 1 else 0)

/-- A two-byte item that may be absent. -/
def maybe2 : Option Nat → List Byte
  | some n => byte2 n
  | none => word2 0xFFFF

/-- A one-byte index that may be absent. -/
def maybeIndex {n : Nat} : Option (Fin n) → List Byte
  | some i => byte1 (numberOf i)
  | none => byte1 0

/-- Any other one-byte item that may be absent. -/
def maybe1 : Option Nat → List Byte
  | some n => byte1 n
  | none => byte1 0xFF

/-- A list of one-byte members with its count. -/
def list1 (l : List Nat) : List Byte :=
  byte1 l.length ++ l.flatMap byte1

/-! ### Codes of the enumerated items, and the items of codes -/

/-- The item whose code a byte is, by a table of codes. -/
def itemOf {α : Type} (table : List (Nat × α)) (code : Nat) : Option α :=
  match table with
  | [] => none
  | (c, a) :: rest => if c = code then some a else itemOf rest code

def codeOfKind : Kind → Nat
  | .unused => 1 | .vehicle => 2 | .pedestrian => 3 | .arrow => 4

def kindOf (code : Nat) : Option Kind :=
  itemOf [(1, .unused), (2, .vehicle), (3, .pedestrian), (4, .arrow)] code

def codeOfPolicy : Policy → Nat
  | .held => 0 | .actuated => 1

def policyOf (code : Nat) : Option Policy :=
  itemOf [(0, .held), (1, .actuated)] code

def codeOfColour : Colour → Nat
  | .red => 1 | .amber => 2 | .green => 3

def colourOf (code : Nat) : Option Colour :=
  itemOf [(1, .red), (2, .amber), (3, .green)] code

def codeOfMode : Mode → Nat
  | .dark => 0 | .configure => 1 | .startFlash => 2 | .startRed => 3 | .run => 4 | .runClosing => 5 | .flash => 6
  | .failFlash => 7

def modeOf (code : Nat) : Option Mode :=
  itemOf [(0, .dark), (1, .configure), (2, .startFlash), (3, .startRed), (4, .run), (5, .runClosing), (6, .flash),
    (7, .failFlash)] code

def codeOfFlagChange : FlagChange → Nat
  | .set => 1 | .clear => 2 | .leave => 3

def flagChangeOf (code : Nat) : Option FlagChange :=
  itemOf [(1, .set), (2, .clear), (3, .leave)] code

def codeOfCallChange : CallChange → Nat
  | .latch => 1 | .withdraw => 2 | .leave => 3

def callChangeOf (code : Nat) : Option CallChange :=
  itemOf [(1, .latch), (2, .withdraw), (3, .leave)] code

def codeOfCallValue : CallValue → Nat
  | .assert => 1 | .release => 2

def callValueOf (code : Nat) : Option CallValue :=
  itemOf [(1, .assert), (2, .release)] code

def codeOfFaultPolicy : FaultPolicy → Nat
  | .flash => 1 | .report => 2

def faultPolicyOf (code : Nat) : Option FaultPolicy :=
  itemOf [(1, .flash), (2, .report)] code

def codeOfChirp : ChirpLength → Nat
  | .short => 1 | .long => 2

def chirpOf (code : Nat) : Option ChirpLength :=
  itemOf [(1, .short), (2, .long)] code

def codeOfStationKind : StationKind → Nat
  | .none => 1 | .detector => 2 | .sign => 3

def stationKindOf (code : Nat) : Option StationKind :=
  itemOf [(1, .none), (2, .detector), (3, .sign)] code

def codeOfChannelOp : ChannelOp → Nat
  | .add => 1 | .remove => 2

def channelOpOf (code : Nat) : Option ChannelOp :=
  itemOf [(1, .add), (2, .remove)] code

def codeOfAction : Action → Nat
  | .empty => 1 | .call => 2 | .extend => 3 | .callExtend => 4 | .ped => 5 | .preempt => 6 | .forward => 7
  | .discard => 8

def actionOf (code : Nat) : Option Action :=
  itemOf [(1, .empty), (2, .call), (3, .extend), (4, .callExtend), (5, .ped), (6, .preempt), (7, .forward),
    (8, .discard)] code

def codeOfEventKind : EventKind → Nat
  | .occupy => 1 | .vacate => 2 | .pulse => 3 | .press => 4 | .chFault => 5 | .chOk => 6

def eventKindOf (code : Nat) : Option EventKind :=
  itemOf [(1, .occupy), (2, .vacate), (3, .pulse), (4, .press), (5, .chFault), (6, .chOk)] code

/-- The depth codes of host bodies, by R202 (log entry 11). -/
def codeOfDepth : Depth → Nat
  | .d1 => 1 | .d4 => 2 | .d9 => 3

def depthOf (code : Nat) : Option Depth :=
  itemOf [(1, .d1), (2, .d4), (3, .d9)] code

/-- The depth codes of a CHUNK frame (section 12.4). -/
def busCodeOfDepth : Depth → Nat
  | .d1 => 1 | .d4 => 4 | .d9 => 9

def codeOfWritePage : WritePage → Nat
  | .draft => 1 | .preempt => 2

def writePageOf (code : Nat) : Option WritePage :=
  itemOf [(1, .draft), (2, .preempt)] code

def codeOfFaultKind : FaultKind → Nat
  | .conflict => 1 | .shortClear => 2 | .greenMismatch => 3 | .outputMismatch => 4 | .lampLow => 5 | .lampHigh => 6
  | .redOut => 7 | .hostSilent => 8 | .stationOffline => 9 | .stationFault => 10 | .channelFailed => 11
  | .signFault => 12

def faultKindOf (code : Nat) : Option FaultKind :=
  itemOf [(1, .conflict), (2, .shortClear), (3, .greenMismatch), (4, .outputMismatch), (5, .lampLow), (6, .lampHigh),
    (7, .redOut), (8, .hostSilent), (9, .stationOffline), (10, .stationFault), (11, .channelFailed),
    (12, .signFault)] code

def codeOfInterval : DimInterval → Nat
  | .s2 => 1 | .s5 => 2 | .s10 => 3 | .s30 => 4

def intervalOf (code : Nat) : Option DimInterval :=
  itemOf [(1, .s2), (2, .s5), (3, .s10), (4, .s30)] code

/-- The interval of a ramp in tenths (R114). -/
def intervalTenths : DimInterval → Nat
  | .s2 => 20 | .s5 => 50 | .s10 => 100 | .s30 => 300

/-- The chirp length in tenths (Table 6-5). -/
def chirpTenths : ChirpLength → Nat
  | .short => 5 | .long => 15

/-- A flag code: 0 clear, 1 set (R202). -/
def flagOf (code : Nat) : Option Bool :=
  itemOf [(0, false), (1, true)] code

def codeOfFlag (b : Bool) : Nat := if b then 1 else 0

/-- The code of an item that may be a code of no value: 0xFF, which no item uses. -/
def codeOr {α : Type} (f : α → Nat) : Option α → Nat
  | some a => f a
  | none => 0xFF

def codeOfGroupState : GroupState → Nat
  | .off => 1 | .flash => 2 | .red => 3 | .prep => 4 | .green => 5 | .clear => 6

def codeOfReason : Reason → Nat
  | .leave => 1 | .gap => 2 | .max => 3 | .preempt => 4 | .close => 5 | .fail => 6

/-- An origin (R202): 0 for HOST, the channel number for PREEMPT. -/
def codeOfOrigin : Origin → Nat
  | .host => 0
  | .preempt p => numberOf p

def codeOfOutcome : EntryOutcome → Nat
  | .granted => 1 | .cancelledByPreempt => 2 | .cancelledByMode => 3

def codeOfChanState : ChanState → Nat
  | .idle => 1 | .pending => 2 | .delay => 3 | .clearing => 4 | .track => 5 | .dwell => 6

def codeOfSourceCause : SourceCause → Nat
  | .occupied => 1 | .pressed => 2 | .failed => 3

def codeOfPreemptCause : PreemptCause → Nat
  | .asserted => 1 | .released => 2 | .started => 3 | .delayEnd => 4 | .trackStart => 5 | .dwellStart => 6
  | .exit => 7 | .displaced => 8 | .abandoned => 9 | .commit => 10

def codeOfModeCause : ModeCause → Nat
  | .request => 1 | .timer => 2 | .fault => 3 | .faultCleared => 4 | .commit => 5

def codeOfStage : CloseStage → Nat
  | .draining => 1 | .allRed => 2

def codeOfCommand : Command → Nat
  | .off => 1 | .on => 2 | .flashing => 3

def codeOfHealth : Health → Nat
  | .ok => 1 | .low => 2 | .high => 3

/-- The host source of a preemption channel (Table 4-1): asserted, released. -/
def codeOfHostSource (asserted : Bool) : Nat := if asserted then 1 else 2

/-- The sensed voltage state (Table 6-1): present, absent. -/
def codeOfSense (present : Bool) : Nat := if present then 1 else 2

def codeOfPattern : Pattern → Nat
  | .silent => 1 | .locate => 2 | .walk => 3 | .chirp => 4

def codeOfFaultState : FaultState → Nat
  | .active => 1 | .latched => 2 | .cleared => 3

def codeOfStationState : StationState → Nat
  | .polling => 1 | .degraded => 2 | .offline => 3 | .suspended => 4

def codeOfStationCause : StationCause → Nat
  | .warning => 1 | .degraded => 2 | .recovered => 3 | .offline => 4 | .suspended => 5 | .restored => 6
  | .cleared => 7 | .commit => 8

def codeOfJob : Job → Nat
  | .poll => 1 | .chunk _ _ => 2 | .flip _ => 3

def codeOfDetState : DetState → Nat
  | .idle => 1 | .occupied => 2 | .failed => 3

def codeOfFailCause : FailCause → Nat
  | .chFault => 1 | .stuck => 2 | .station => 3

def codeOfChannelCause : ChannelCause → Nat
  | .chFault => 1 | .stuck => 2 | .station => 3 | .chOk => 4 | .vacate => 5 | .recovered => 6

def codeOfShowing : Showing → Nat
  | .active => 1 | .preempt => 2

def codeOfTransfer : TransferState → Nat
  | .idle => 1 | .sending => 2 | .suspended => 3

def codeOfSignCause : SignCause → Nat
  | .started => 1 | .restarted => 2 | .suspended => 3 | .resumed => 4 | .flipped => 5

/-- Result codes (Table 12-3). -/
def codeOfResult : Result → Nat
  | .ok => 0x00 | .clamped => 0x01 | .deferred => 0x02 | .merged => 0x03 | .badKind => 0x10 | .badLength => 0x11
  | .badIndex => 0x12 | .wrongMode => 0x13 | .notConfigured => 0x14 | .faultLatched => 0x15
  | .invalidConfig => 0x16 | .preempted => 0x17 | .inhibited => 0x18 | .alreadyGreen => 0x19 | .queueFull => 0x1A
  | .tooLate => 0x1B | .notQueued => 0x1C | .notGreen => 0x1D | .notOffline => 0x1E | .notSuspended => 0x1F
  | .notLatched => 0x20 | .localOnly => 0x21

/-- The set of sources as a byte (R202): DETECTOR 1, HOST 2, RECALL 3, FAILED 4. -/
def bitsOfSources (s : Sources) : Nat :=
  (if s.detector then 1 else 0) + (if s.host then 2 else 0) + (if s.recalls then 4 else 0) +
    (if s.failed then 8 else 0)

/-- What a failure names, as items: the list of groups, then the preemption channel or 0 (log entry 11). -/
def bytesOfNamed : Option Named → List Byte
  | none => list1 [] ++ byte1 0
  | some (.groups l) => list1 (l.map numberOf) ++ byte1 0
  | some (.channel p) => list1 [] ++ byte1 (numberOf p)

/-- A detector channel: station and channel number. -/
def bytesOfChannel (c : ChannelId) : List Byte :=
  byte1 (numberOf c.station) ++ byte1 (numberOf c.channel)

/-! ### The CHECK of a frame (R203) -/

/-- One step of the register. -/
def checkStep (r : Word16) : Word16 := if r.msb then (r <<< 1) ^^^ 0x1021#16 else r <<< 1

/-- One byte enters the register. -/
def checkByte (r : Word16) (b : Byte) : Word16 :=
  checkStep (checkStep (checkStep (checkStep (checkStep (checkStep (checkStep (checkStep
    (r ^^^ (b ++ 0#8)))))))))

/-- The CHECK of the bytes it covers. -/
def checkOf (l : List Byte) : Word16 := l.foldl checkByte 0xFFFF#16

end Sys2Proof.Machine
end

