-- ==== Sys2Proof/Machine/Flags.lean ====
section
/-! DEFINITION. Machine/Flags.lean: what the part reads off its state: the committed values, the conditions that the
rules name, and the tables that derive one item from others. -/

namespace Sys2Proof.Machine

/-! ### Colours -/

/-- The record of one colour. -/
def Trio.get {α : Type} (t : Trio α) : Colour → α
  | .red => t.red
  | .amber => t.amber
  | .green => t.green

/-- The trio with the record of one colour replaced. -/
def Trio.put {α : Type} (t : Trio α) (c : Colour) (a : α) : Trio α :=
  match c with
  | .red => { t with red := a }
  | .amber => { t with amber := a }
  | .green => { t with green := a }

/-! ### The committed configuration -/

/-- The committed configuration, and the empty one while none is committed (R22, R25, R70, R109, R144; for the global
settings that MODE_STATUS carries the manual is silent: DESIGN CHOICE, log entry 33). -/
def State.cfg (s : State) : Configuration := s.committed.getD Configuration.blank

/-- The committed configured fields of a group. -/
def State.groupCfg (s : State) (g : GroupId) : GroupCfg := s.cfg.groups.get g

/-- The committed kind of a group. -/
def State.kind (s : State) (g : GroupId) : Kind := (s.groupCfg g).kind

/-- A matrix's time from one group to another. -/
def matrixTime (m : Bank 24 (Bank 24 (Option Nat))) (i j : GroupId) : Option Nat := (m.get i).get j

/-- IG(i,j) of the committed matrix (R24). -/
def State.intergreen (s : State) (i j : GroupId) : Option Nat := matrixTime s.cfg.matrix i j

/-- Two groups conflict (R25). -/
def State.conflicts (s : State) (i j : GroupId) : Bool := (s.intergreen i j).isSome

/-! ### Groups -/

/-- The group is in PREP or GREEN. -/
def Group.entering (r : Group) : Bool := r.state == .prep || r.state == .green

/-- The group is in PREP, GREEN or CLEAR. -/
def Group.serving (r : Group) : Bool := r.state == .prep || r.state == .green || r.state == .clear

/-- rem(i,j) (R45), where group i has a time to j. -/
def State.remaining (s : State) (i j : GroupId) : Nat :=
  (s.intergreen i j).getD 0 - (s.groups.get i).greenEndAge

/-- Every configured group is in RED (R97). -/
def State.allRed (s : State) : Bool :=
  (List.finRange 24).all fun g => s.kind g == .unused || (s.groups.get g).state == .red

/-! ### Demand -/

/-- The demand is LATCHED (R49). -/
def Sources.latched (x : Sources) : Bool := x.detector || x.host || x.recalls || x.failed

/-- A conflicting demand exists for a green of `j` (R58). -/
def State.conflictingDemand (s : State) (j : GroupId) : Bool :=
  (List.finRange 24).any fun g =>
    s.conflicts g j && ((s.demand.get g).sources.latched || s.queue.any fun e => e.group == g)

/-! ### Preemption -/

/-- The channel is asserted (R71). -/
def Preempt.asserted (r : Preempt) : Bool := r.host || !r.sources.isEmpty

/-- The channel is in CLEARING, TRACK or DWELL. -/
def Preempt.working (r : Preempt) : Bool :=
  r.state == .clearing || r.state == .track || r.state == .dwell

/-- The channel in CLEARING, TRACK or DWELL, if any (R82). -/
def State.activeChannel (s : State) : Option PreemptId :=
  (List.finRange 4).find? fun p => (s.preempt.get p).working

/-- Some channel is in CLEARING, TRACK or DWELL. -/
def State.preempting (s : State) : Bool :=
  (List.finRange 4).any fun p => (s.preempt.get p).working

/-- The groups that channel `p` leaves green in its present state (R78). -/
def State.spares (s : State) (p : PreemptId) (g : GroupId) : Bool :=
  let c := s.cfg.preempt.get p
  if (s.preempt.get p).state == .dwell then c.dwell.contains g else c.track.contains g || c.dwell.contains g

/-- The green of `g` is to be ended with reason PREEMPT at this moment (R78). -/
def State.truncates (s : State) (g : GroupId) : Bool :=
  match s.activeChannel with
  | none => false
  | some p =>
    (s.groups.get g).state == .green && !s.spares p g &&
      (s.cfg.preempt.get p).preemptMin ≤ (s.groups.get g).greenElapsed

/-! ### Lamps -/

/-- Table 6-2: the command of an output by the kind and state of its group. -/
def commandOf (kind : Kind) (state : GroupState) (colour : Colour) : Command :=
  match kind, state, colour with
  | .unused, _, _ => .off
  | _, .off, _ => .off
  | .vehicle, .flash, .amber => .flashing
  | _, .flash, _ => .off
  | _, .red, .red => .on
  | _, .red, _ => .off
  | _, .prep, .red => .on
  | .pedestrian, .prep, .amber => .off
  | _, .prep, .amber => .on
  | _, .prep, .green => .off
  | _, .green, .green => .on
  | _, .green, _ => .off
  | .pedestrian, .clear, .red => .flashing
  | .pedestrian, .clear, _ => .off
  | _, .clear, .amber => .on
  | _, .clear, _ => .off

/-- Table 6-3: the duty of a dimming level. -/
def dutyOf (level : Nat) : Nat :=
  match level with
  | 1 => 100 | 2 => 85 | 3 => 72 | 4 => 61 | 5 => 52 | 6 => 44 | 7 => 37 | _ => 30

/-- The expected state of an output (R125). -/
def expectedOf (command : Command) (lit : Bool) : Bool :=
  match command with
  | .on => true
  | .off => false
  | .flashing => lit

/-- Table 6-6: the pattern of an audible output by the state of its group, no chirp running. -/
def patternOf (state : GroupState) : Pattern :=
  match state with
  | .red | .prep => .locate
  | .green => .walk
  | .clear | .flash | .off => .silent

/-- The effective volume (R120). -/
def volumeOf (volume level : Nat) : Nat :=
  if level ≤ 4 then volume else if volume ≤ 3 then 1 else volume - 2

/-- The tone of an audible output in Hz (R120). -/
def toneHz (tone : Nat) : Nat :=
  match tone with
  | 1 => 500 | 2 => 630 | 3 => 800 | 4 => 1000 | 5 => 1250 | 6 => 1600 | 7 => 2000 | _ => 2500

/-- Whether an audible output sounds at this moment (Table 6-6): ticks of 40 ms. -/
def Audio.sounds (r : Audio) : Bool :=
  match r.pattern with
  | .silent => false
  | .locate => r.patternMs < 40
  | .walk => r.patternMs % 125 < 40
  | .chirp => true

/-- Results of a current check (R130). -/
inductive CheckResult where
  | low | high | inBand
  deriving DecidableEq, Repr

/-- R130: the class of a measurement for an output at the given duty. -/
def classOf (iNom duty measured : Nat) : CheckResult :=
  if measured < iNom * duty / 200 then .low
  else if iNom * duty * 3 / 200 < measured then .high
  else .inBand

/-! ### Faults -/

/-- The policy of a fault kind now (Table 7-3). -/
def State.policyOfFault (s : State) (kind : FaultKind) : FaultPolicy :=
  match kind with
  | .conflict | .shortClear | .greenMismatch => .flash
  | .redOut => s.cfg.global.redOut
  | .hostSilent => s.cfg.global.hostSilent
  | _ => .report

/-- Local-only fault kinds (Table 7-3). -/
def localOnly (kind : FaultKind) : Bool :=
  match kind with
  | .conflict | .shortClear | .greenMismatch => true
  | _ => false

/-- The record is the one a condition belongs to (R134). -/
def FaultRecord.covers (r : FaultRecord) (c : Condition) : Bool :=
  r.kind == c.kind && r.policy == c.policy && (r.policy == .flash || r.object == c.object)

/-- Two records have the same key (R134). -/
def FaultRecord.sameKey (r x : FaultRecord) : Bool :=
  r.kind == x.kind && r.policy == x.policy && (r.policy == .flash || r.object == x.object)

/-- The record is of FLASH policy and ACTIVE or LATCHED (R100). -/
def FaultRecord.holdsFlash (r : FaultRecord) : Bool :=
  r.policy == .flash && r.state != .cleared

/-- Some condition of the kind and object stands. -/
def State.stands (s : State) (kind : FaultKind) (object : FaultObject) : Bool :=
  s.monitor.conditions.any fun c => c.kind == kind && c.object == object

/-- The object of a group. -/
def objectOfGroup (g : GroupId) : FaultObject := ⟨numberOf g, 0⟩
/-- The object of an output. -/
def objectOfOutput (g : GroupId) (c : Colour) : FaultObject := ⟨numberOf g, codeOfColour c⟩
/-- The object of a pair of groups, the lower first. -/
def objectOfPair (low high : GroupId) : FaultObject := ⟨numberOf low, numberOf high⟩
/-- The object of a station. -/
def objectOfStation (st : StationId) : FaultObject := ⟨numberOf st, 0⟩
/-- The object of a detector channel. -/
def objectOfChannel (c : ChannelId) : FaultObject := ⟨numberOf c.station, numberOf c.channel⟩
/-- The object of a sign. -/
def objectOfSign (n : SignId) : FaultObject := ⟨numberOf n, 0⟩
/-- The object of the host link. -/
def objectOfLink : FaultObject := ⟨0, 0⟩

/-- An object is within the range of its kind (R137, chapter 12; a pair has the lower group first, log entry 25). -/
def objectInRange (kind : FaultKind) (a b : Nat) : Bool :=
  match kind with
  | .conflict => 1 ≤ a && a < b && b ≤ 24
  | .shortClear | .redOut => 1 ≤ a && a ≤ 24 && b == 0
  | .greenMismatch | .outputMismatch | .lampLow | .lampHigh => 1 ≤ a && a ≤ 24 && 1 ≤ b && b ≤ 3
  | .hostSilent => a == 0 && b == 0
  | .stationOffline | .stationFault => 1 ≤ a && a ≤ 32 && b == 0
  | .channelFailed => 1 ≤ a && a ≤ 32 && 1 ≤ b && b ≤ 8
  | .signFault => 1 ≤ a && a ≤ 4 && b == 0

/-- The mismatch kind of an output's colour (R126). -/
def mismatchKind (c : Colour) : FaultKind :=
  match c with
  | .green => .greenMismatch
  | _ => .outputMismatch

/-- A VEHICLE group in RED with its red health LOW (R132). -/
def State.redOut (s : State) (g : GroupId) : Bool :=
  s.kind g == .vehicle && (s.groups.get g).state == .red && (s.outputs.get g).red.health == .low

/-! ### Stations and signs -/

/-- The station is POLLING or DEGRADED. -/
def Station.inService (r : Station) : Bool :=
  r.state == some .polling || r.state == some .degraded

/-- The station is OFFLINE or SUSPENDED. -/
def Station.lost (r : Station) : Bool :=
  r.state == some .offline || r.state == some .suspended

/-- The sign configured on a station (R178 gives a station at most one). -/
def State.signOn (s : State) (st : StationId) : Option SignId :=
  (List.finRange 4).find? fun n => (s.cfg.signs.get n).station == some st

/-- The chunk count (R176). -/
def SignCfg.chunkCount (c : SignCfg) : Nat := (c.width * c.height + 63) / 64

/-- The largest value of a cell (R176). -/
def cellLimitOf : Depth → Nat
  | .d1 => 1 | .d4 => 15 | .d9 => 511

/-- The sign a transaction is for. -/
def Job.sign : Job → Option SignId
  | .poll => none
  | .chunk n _ => some n
  | .flip n => some n

/-- A transaction for the sign is in flight (R184). -/
def State.signBusy (s : State) (n : SignId) : Bool :=
  match s.bus.transaction with
  | none => false
  | some t => t.job.sign == some n

/-- The station of the sign is POLLING or DEGRADED. -/
def State.signServed (s : State) (n : SignId) : Bool :=
  match (s.cfg.signs.get n).station with
  | none => false
  | some st => (s.stations.get st).inService

/-- The stuck_limit of a channel in the committed configuration, absent when the channel is not configured. -/
def State.stuckLimit (s : State) (c : ChannelId) : Option Nat := (s.cfg.channels.get c.station).get c.channel

/-- The record of a detector channel. -/
def State.channel (s : State) (c : ChannelId) : Channel := (s.channels.get c.station).get c.channel

/-- The detector channels in ascending order of station and channel number. -/
def allChannels : List ChannelId :=
  (List.finRange 32).flatMap fun st => (List.finRange 8).map fun c => ⟨st, c⟩

/-- The channels of a station in ascending order. -/
def channelsOf (st : StationId) : List ChannelId := (List.finRange 8).map fun c => ⟨st, c⟩

/-- The lamp outputs in the order of Table 6-1. -/
def allOutputs : List (GroupId × Colour) :=
  (List.finRange 24).flatMap fun g => [(g, .red), (g, .amber), (g, .green)]

/-- The fault record kinds that have a record ACTIVE or LATCHED, as bits (R199). -/
def State.faultBits (s : State) : Nat :=
  (List.range 12).foldl (fun n i =>
    if s.faults.any (fun r => codeOfFaultKind r.kind == i + 1 && r.state != .cleared) then n + 2 ^ i else n) 0

end Sys2Proof.Machine
end

