-- ==== Sys2Proof/Machine/Ops.lean ====
section
/-! DEFINITION. Machine/Ops.lean: the operations that every block shares: writing one record, raising a notice
(R197), ending a fault condition (R135), and changing a group's record with what follows from it in the Lamp Driver
and the Output Monitor (R110, R111, R120, R128, R132). -/

namespace Sys2Proof.Machine

/-! ### One record -/

def State.putGroup (s : State) (g : GroupId) (r : Group) : State := { s with groups := s.groups.set g r }

def State.putDemand (s : State) (g : GroupId) (r : Demand) : State := { s with demand := s.demand.set g r }

def State.putPreempt (s : State) (p : PreemptId) (r : Preempt) : State := { s with preempt := s.preempt.set p r }

def State.putAudio (s : State) (a : AudioId) (r : Audio) : State := { s with audio := s.audio.set a r }

def State.putStation (s : State) (st : StationId) (r : Station) : State := { s with stations := s.stations.set st r }

def State.putSign (s : State) (n : SignId) (r : Sign) : State := { s with signs := s.signs.set n r }

def State.putChannel (s : State) (c : ChannelId) (r : Channel) : State :=
  { s with channels := s.channels.upd c.station fun b => b.set c.channel r }

/-- The record of an output. -/
def State.output (s : State) (g : GroupId) (c : Colour) : Output := (s.outputs.get g).get c

def State.putOutput (s : State) (g : GroupId) (c : Colour) (o : Output) : State :=
  { s with outputs := s.outputs.upd g fun t => t.put c o }

def State.putLink (s : State) (l : Link) : State := { s with link := l }

def State.putQueue (s : State) (q : List Entry) : State := { s with queue := q }

def State.putFaults (s : State) (l : List FaultRecord) : State := { s with faults := l }

def State.putConditions (s : State) (l : List Condition) : State :=
  { s with monitor := { s.monitor with conditions := l } }

def State.putClearance (s : State) (g : GroupId) (c : Clearance) : State :=
  { s with monitor := { s.monitor with clearance := s.monitor.clearance.set g c } }

/-- Perform an operation for each member of a list in turn. -/
def forEach {α : Type} (l : List α) (f : α → State → State) (s : State) : State :=
  l.foldl (fun s a => f a s) s

/-! ### Notices (R197) -/

/-- The key of a notice: its KIND code and the three key bytes of Table 12-7. -/
structure NoticeKey where
  kind : Nat
  a : Nat
  b : Nat
  c : Nat
  deriving DecidableEq, Repr

/-- The key of a notice (Table 11-4, Table 12-7). -/
def NoticeBody.key : NoticeBody → NoticeKey
  | .mode _ _ _ _ => ⟨0x40, 0, 0, 0⟩
  | .demand g _ => ⟨0x41, numberOf g, 0, 0⟩
  | .entryDone g _ _ _ => ⟨0x42, numberOf g, 0, 0⟩
  | .greenEnd g _ _ _ _ _ => ⟨0x43, numberOf g, 0, 0⟩
  | .preempt p _ _ _ _ _ _ _ _ => ⟨0x44, numberOf p, 0, 0⟩
  | .fault r => if r.policy = .flash then ⟨0x45, codeOfFaultKind r.kind, 0, 0xFF⟩
      else ⟨0x45, codeOfFaultKind r.kind, r.object.a, r.object.b⟩
  | .station st _ _ _ _ => ⟨0x46, numberOf st, 0, 0⟩
  | .channel c _ _ _ => ⟨0x47, numberOf c.station, numberOf c.channel, 0⟩
  | .sign n _ _ _ _ _ _ _ _ => ⟨0x48, numberOf n, 0, 0⟩
  | .forward c _ _ _ => ⟨0x49, numberOf c.station, numberOf c.channel, 0⟩
  | .linkError _ => ⟨0x4A, 0, 0, 0⟩
  | .overrun _ => ⟨0x4B, 0, 0, 0⟩
  | .resetDone _ _ _ _ => ⟨0x4C, 0, 0, 0⟩

/-- The waiting list with the contents of the notice of the new one's key replaced in place; `none` when no notice
of that key waits (R197). -/
def updateWaiting (n : Notice) : List Notice → Option (List Notice)
  | [] => none
  | w :: rest =>
    if w.body.key = n.body.key then some (n :: rest)
    else (updateWaiting n rest).map (w :: ·)

/-- R197, R198: the Link Interface takes a raised notice. -/
def Link.take (l : Link) (n : Notice) : Link :=
  match updateWaiting n l.notices with
  | some list => { l with notices := list }
  | none =>
    if l.notices.length < Config.noticeLimit then { l with notices := l.notices ++ [n] }
    else { l with overflowCount := min 255 (l.overflowCount + 1), overflowFlag := true, marker := true }

/-- A block raises a notice, stamped with the uptime (R197, Table 12-7). -/
def raise (b : NoticeBody) (s : State) : State :=
  s.putLink (s.link.take ⟨s.clock.uptime, b⟩)

/-! ### Ends of fault conditions (R135) -/

/-- Replace the record of a key in the table, keeping its place. -/
def replaceRecord (r : FaultRecord) (l : List FaultRecord) : List FaultRecord :=
  l.map fun x => if x.sameKey r then r else x

/-- The state a record passes to when no instance of its condition stands (R135). -/
def closedState : FaultPolicy → FaultState
  | .flash => .latched
  | .report => .cleared

/-- R135: the condition of the kind and object ends. A record of it that is ACTIVE, and of which no other condition
stands, passes to LATCHED or CLEARED with its FAULT notice (R139). -/
def endCondition (kind : FaultKind) (object : FaultObject) (s : State) : State :=
  match s.monitor.conditions.find? fun c => c.kind == kind && c.object == object with
  | none => s
  | some c =>
    let rest := s.monitor.conditions.filter fun x => !(x == c)
    let s1 := s.putConditions rest
    match s1.faults.find? fun r => r.covers c && r.state == .active with
    | none => s1
    | some r =>
      if rest.any r.covers then s1
      else
        let r1 := { r with state := closedState r.policy }
        raise (.fault r1) (s1.putFaults (replaceRecord r1 s1.faults))

/-! ### A change of a group's record -/

/-- R111, R125, R129: an output takes a new command: the settle time of its comparison begins, a disagreement is
discarded, and its schedule of current checks begins or stops. -/
def Output.obey (o : Output) (command : Command) (lit committed : Bool) : Output :=
  if o.commanded = command then o
  else
    { o with
      commanded := command
      expected := expectedOf command lit
      settle := if committed then some Config.settleMs else none
      mismatch := none
      checkIn := if command = .on && committed then some Config.firstCheckMs else none }

/-- R110: the three outputs of a group take the commands of its kind and state. -/
def driveLamps (g : GroupId) (s : State) : State :=
  let kind := s.kind g
  let state := (s.groups.get g).state
  let obey (c : Colour) (o : Output) := o.obey (commandOf kind state c) s.flash.lit s.committed.isSome
  { s with outputs := s.outputs.upd g fun t => ⟨obey .red t.red, obey .amber t.amber, obey .green t.green⟩ }

/-- R120, R122: an audible output follows a change of its group's state. -/
def Audio.follow (r : Audio) (state : GroupState) : Audio :=
  if r.pattern = .chirp && (state = .red || state = .prep) then r
  else if r.pattern = patternOf state then r
  else { r with pattern := patternOf state, chirpLeft := 0, patternMs := 0 }

/-- R120: the audible outputs assigned to a group follow a change of its state. -/
def driveAudio (g : GroupId) (s : State) : State :=
  let state := (s.groups.get g).state
  { s with audio := s.audio.mapAt fun a r => if (s.cfg.audio.get a).group = some g then r.follow state else r }

/-- R128: an armed measurement is discarded when the group's commands become those of FLASH or OFF. -/
def dropClearance (g : GroupId) (s : State) : State :=
  if (s.groups.get g).state = .flash || (s.groups.get g).state = .off then s.putClearance g .none else s

/-- R132: the RED_OUT condition of a group ends when the group or its red health no longer gives it. -/
def endRedOut (g : GroupId) (s : State) : State :=
  if s.redOut g then s else endCondition .redOut (objectOfGroup g) s

/-- A group's record becomes `r`; at a change of its state the lamps, the audible outputs and the Output Monitor
follow (R6, R111, R120, R128, R132). -/
def changeGroup (g : GroupId) (r : Group) (s : State) : State :=
  let s1 := s.putGroup g r
  if (s.groups.get g).state = r.state then s1
  else endRedOut g (dropClearance g (driveAudio g (driveLamps g s1)))

/-! ### Free choices (R13) -/

/-- Of several causes that fall on one moment, one is taken first; which one is a free value (log entry 7). -/
def takeFirst (l : List Reason) (s : State) : Option Reason × State :=
  match l with
  | [] => (none, s)
  | [r] => (some r, s)
  | _ => (l[Config.firstTaken s.choices % l.length]?, { s with choices := s.choices + 1 })

end Sys2Proof.Machine
end

