-- ==== Sys2Proof/Machine/Demand.lean ====
section
/-! DEFINITION. Machine/Demand.lean: the Demand Unit's own operations (chapter 3) and the entry queue's operations
(sections 2.2.3 and 2.2.4), up to what the Group Sequencer needs of them. -/

namespace Sys2Proof.Machine

/-! ### Demand (R49 to R52, R58, R61, R63) -/

/-- Names of the sources of a demand (R49). -/
inductive Source where
  | detector | host | recalls | failed
  deriving DecidableEq, Repr

/-- The source is in the set. -/
def Sources.has (x : Sources) : Source → Bool
  | .detector => x.detector
  | .host => x.host
  | .recalls => x.recalls
  | .failed => x.failed

/-- The set with a source added. -/
def Sources.add (x : Sources) : Source → Sources
  | .detector => { x with detector := true }
  | .host => { x with host := true }
  | .recalls => { x with recalls := true }
  | .failed => { x with failed := true }

/-- R61: a conflicting demand for the greens that conflict with `g` appears; each ACTUATED one whose max timer is
NOT_STARTED starts it. -/
def conflictAppears (g : GroupId) (s : State) : State :=
  { s with
    demand := s.demand.mapAt fun j d =>
      match d.timers with
      | none => d
      | some t =>
        if s.conflicts g j && t.elapsed.isNone then { d with timers := some { t with elapsed := some 0 } } else d }

/-- R50: a cause latches the demand of a configured group. At a change from NONE the DEMAND notice is raised (R64)
and the max timers of conflicting greens are examined (R61). -/
def latch (g : GroupId) (x : Source) (s : State) : State :=
  let d := s.demand.get g
  if s.kind g = .unused || d.sources.has x then s
  else
    let s1 := s.putDemand g { d with sources := d.sources.add x }
    if d.sources.latched then s1
    else conflictAppears g (raise (.demand g (d.sources.add x)) s1)

/-- A gap timer set running from an ext_unit; with nothing remaining it is EXPIRED at once (R58, R59). -/
def runGap (ext : Nat) : GapTimer := if ext = 0 then .expired else .running ext

/-- R51, R58: the Demand Unit is told of a green start. -/
def greenStarted (g : GroupId) (s : State) : State :=
  let d := s.demand.get g
  let r := s.groups.get g
  let s1 := s.putDemand g { d with sources := ⟨false, false, false, false⟩, timers := none }
  if r.policy = some .actuated then
    let gap := if d.hold.isEmpty then runGap (s.groupCfg g).extUnit else .holding
    let elapsed := if s1.conflictingDemand g then some 0 else none
    let limit := r.maxOverride.getD (s.groupCfg g).maxGreen
    s1.putDemand g { s1.demand.get g with timers := some ⟨gap, elapsed, limit⟩ }
  else s1

/-- R52: the sources that stand again at an end of green. -/
def relatched (x : Sources) (recalls : Bool) (failedRecall : Nat) : Sources :=
  { x with recalls := x.recalls || recalls, failed := x.failed || decide (0 < failedRecall) }

/-- R63: the Demand Unit is told of an end of green: the timers are discarded, GREEN_END is raised, and the demand is
re-latched (R52) with the DEMAND notice of a change from NONE. Where RECALL and FAILED both join an empty set, R64's
"set of sources as it stood at that change" may be the first of them or both. DESIGN CHOICE (log entry 37): the notice
carries both. -/
def greenEnded (g : GroupId) (reason : Reason) (policy : Option Policy) (duration : Nat) (s : State) : State :=
  let d := s.demand.get g
  let x := relatched d.sources (s.groups.get g).recalls d.failedRecall
  let started := d.timers.map fun t => t.elapsed.isSome
  let s1 := raise (.greenEnd g reason policy duration started x.latched)
    (s.putDemand g { d with sources := x, timers := none })
  if x.latched && !d.sources.latched then conflictAppears g (raise (.demand g x) s1) else s1

/-! ### The queue (R36 to R39, R47) -/

/-- Entries leave the queue with an outcome, each with its ENTRY_DONE notice (R36, R38, R39). The rules give the notices
of one moment no order. DESIGN CHOICE (log entry 27): from the head of the queue to its tail. -/
def removeEntries (which : Entry → Bool) (outcome : EntryOutcome) (s : State) : State :=
  forEach (s.queue.filter which) (fun e => raise (.entryDone e.group e.origin e.policy outcome))
    (s.putQueue (s.queue.filter fun e => !which e))

/-- R37: a channel's entries are inserted at the head, in the order of the list. -/
def insertHead (p : PreemptId) (list : List GroupId) (s : State) : State :=
  let fresh := list.filter fun g => !(s.groups.get g).entering
  let entries := fresh.map fun g => (⟨g, .preempt p, .held, none, s.clock.tenths⟩ : Entry)
  forEach fresh conflictAppears
    (s.putQueue (entries ++ s.queue.filter fun e => !fresh.contains e.group))

end Sys2Proof.Machine
end

