-- ==== Sys2Proof/Machine/Groups.lean ====
section
/-! DEFINITION. Machine/Groups.lean: the Group Sequencer's transitions (chapter 1), the grant (R42 to R44), and the gap
timer of an ACTUATED green (R54, R59, R60). -/

namespace Sys2Proof.Machine

/-! ### End of green (R13, R14) -/

/-- R79: a track group of a channel in CLEARING that leaves GREEN is queued again at the head. -/
def requeue (g : GroupId) (s : State) : State :=
  match s.activeChannel with
  | none => s
  | some p =>
    if (s.preempt.get p).state = .clearing && (s.cfg.preempt.get p).track.contains g then insertHead p [g] s else s

/-- R78: an end of green with reason PREEMPT adds 1 to the channel's truncated. -/
def countTruncated (reason : Reason) (s : State) : State :=
  match s.activeChannel with
  | none => s
  | some p =>
    if reason = .preempt then
      s.putPreempt p { s.preempt.get p with truncated := min 24 ((s.preempt.get p).truncated + 1) }
    else s

/-- R13, R14: a termination request reaches a group. A group not in GREEN is not touched. -/
def terminate (g : GroupId) (reason : Reason) (s : State) : State :=
  let r := s.groups.get g
  if r.state = .green then
    let r1 := { r with
      state := .clear, clearTimer := 0, lastReason := some reason, greenElapsed := 0, minGreenPassed := false,
      greenEndAge := 0, policy := none, maxOverride := none, leavePending := false }
    requeue g (countTruncated reason (greenEnded g reason r.policy r.greenElapsed (changeGroup g r1 s)))
  else s

/-- R78: the green is ended with reason PREEMPT when the working channel calls for it at this moment. -/
def truncateIfDue (g : GroupId) (s : State) : State :=
  if s.truncates g then terminate g .preempt s else s

/-- R78: every green that the working channel calls for ending at this moment. The rules give several of them no order.
DESIGN CHOICE (log entry 36): ascending group number. -/
def truncateAll (s : State) : State := forEach (List.finRange 24) truncateIfDue s

/-! ### Entry to green (R10, R11, R44) -/

/-- R11: the green starts. Where a channel at work ends it at its start, with preempt_min 0.0 (R78), the end comes before the
scan of the queue (R41) at that moment: DESIGN CHOICE (log entry 36). -/
def startGreen (g : GroupId) (s : State) : State :=
  let r := s.groups.get g
  let r1 := { r with
    state := .green, prepTimer := 0, greenElapsed := 0, minGreenPassed := false, redAge := 0, greenEndAge := 0 }
  truncateIfDue g (greenStarted g (changeGroup g r1 s))

/-- R42: an entry meets the five conditions of a grant, `older` being the entries before it. -/
def mayGrant (s : State) (older : List Entry) (e : Entry) : Bool :=
  let j := e.group
  let r := s.groups.get j
  let c := s.groupCfg j
  r.state == .red && c.minRed ≤ r.redAge &&
  ((List.finRange 24).all fun i => !s.conflicts i j || !(s.groups.get i).entering) &&
  (older.all fun o => !s.conflicts o.group j) &&
  ((List.finRange 24).all fun i => !s.conflicts i j || (s.groups.get i).entering || s.remaining i j ≤ c.prepTime) &&
  s.mode.mode == .run && (e.origin != .host || !s.preempting)

/-- The first entry from the head that may be granted (R41). -/
def findGrant (s : State) (older : List Entry) : List Entry → Option Entry
  | [] => none
  | e :: rest => if mayGrant s older e then some e else findGrant s (older ++ [e]) rest

/-- R44, R10: a grant: the entry leaves the queue with ENTRY_DONE, and its group leaves RED. The rules give ENTRY_DONE and
the FAULT notice of a RED_OUT that ends with the red (R132) no order. DESIGN CHOICE (log entry 27): ENTRY_DONE first. -/
def grant (e : Entry) (s : State) : State :=
  let g := e.group
  let s1 := raise (.entryDone g e.origin e.policy .granted) (s.putQueue (s.queue.erase e))
  let r := { s1.groups.get g with
    redAge := 0, prepTimer := 0, policy := some e.policy, maxOverride := e.maxOverride, leavePending := false }
  if (s.groupCfg g).prepTime = 0 then startGreen g (s1.putGroup g r)
  else changeGroup g { r with state := .prep } s1

/-! ### Imposed states (R16, R17) -/

/-- R16: a mode order reaches a group. UNUSED groups and groups in PREP, GREEN and CLEAR are not subject to it. -/
def impose (target : GroupState) (g : GroupId) (s : State) : State :=
  let r := s.groups.get g
  if s.kind g = .unused || r.serving then s else changeGroup g { r with state := target, redAge := 0 } s

/-- R16: a mode order reaches every group "at once". Where it takes several out of RED, the rules give the ends of their
RED_OUT conditions (R132) no order. DESIGN CHOICE (log entry 27): ascending group number. -/
def imposeAll (target : GroupState) (s : State) : State := forEach (List.finRange 24) (impose target) s

/-- R17: a configured group at entry to FAIL_FLASH. -/
def failGroup (g : GroupId) (s : State) : State :=
  let r := s.groups.get g
  if s.kind g = .unused then s
  else
    match r.state with
    | .green =>
      greenEnded g .fail r.policy r.greenElapsed (changeGroup g { r with
        state := .flash, lastReason := some .fail, greenElapsed := 0, minGreenPassed := false, greenEndAge := 0,
        policy := none, maxOverride := none, leavePending := false } s)
    | .prep =>
      changeGroup g { r with
        state := .flash, prepTimer := 0, policy := none, maxOverride := none, leavePending := false } s
    | _ => changeGroup g { r with state := .flash, clearTimer := 0, redAge := 0 } s

/-! ### The gap timer (R54, R59, R60) -/

/-- R60: an EXPIRED gap timer past the minimum-green event ends the green by GAP. -/
def gapOut (g : GroupId) (s : State) : State :=
  match (s.demand.get g).timers with
  | none => s
  | some t => if t.gap = .expired && (s.groups.get g).minGreenPassed then terminate g .gap s else s

/-- Set the gap timer of a green, if it has one. -/
def setGap (g : GroupId) (gap : GapTimer) (s : State) : State :=
  let d := s.demand.get g
  match d.timers with
  | none => s
  | some t => s.putDemand g { d with timers := some { t with gap := gap } }

/-- R59: a reload of the gap timer; it stays HOLDING while it holds. -/
def reloadGap (g : GroupId) (s : State) : State :=
  match (s.demand.get g).timers with
  | none => s
  | some t => if t.gap = .holding then s else gapOut g (setGap g (runGap (s.groupCfg g).extUnit) s)

/-- R54, R59: a group's hold set becomes `hold`; a change between empty and non-empty acts on the gap timer. -/
def changeHold (g : GroupId) (hold : List (ChannelId × HoldCause)) (s : State) : State :=
  let d := s.demand.get g
  let s1 := s.putDemand g { d with hold := hold }
  if d.hold.isEmpty && !hold.isEmpty then setGap g .holding s1
  else if !d.hold.isEmpty && hold.isEmpty then gapOut g (setGap g (runGap (s.groupCfg g).extUnit) s1)
  else s1

/-- The hold set with a channel in it with the given cause. -/
def withHold (c : ChannelId) (cause : HoldCause) (hold : List (ChannelId × HoldCause)) :
    List (ChannelId × HoldCause) :=
  if hold.any fun m => m.1 == c then hold.map fun m => if m.1 = c then (c, cause) else m
  else hold ++ [(c, cause)]

/-- R54: a channel joins the hold set of a configured group with cause OCCUPIED. -/
def joinHold (g : GroupId) (c : ChannelId) (s : State) : State :=
  if s.kind g = .unused then s else changeHold g (withHold c .occupied (s.demand.get g).hold) s

/-- R54: a channel with cause OCCUPIED leaves every hold set it stands in. The rule gives the sets no order. DESIGN CHOICE
(log entry 35): ascending group number. -/
def leaveHolds (c : ChannelId) (s : State) : State :=
  forEach (List.finRange 24) (fun g s =>
    let hold := (s.demand.get g).hold
    if hold.contains (c, .occupied) then changeHold g (hold.filter fun m => !(m == (c, .occupied))) s else s) s

end Sys2Proof.Machine
end

