-- ==== Sys2Proof/Machine/Transfers.lean ====
section
/-! DEFINITION. Machine/Transfers.lean: the Sign Store's transfers (sections 10.3 and 10.4): new content, the showing
selector, and the loss and return of a sign's station. -/

namespace Sys2Proof.Machine

/-- R188: a SIGN notice with the record as it stands. -/
def signNotice (n : SignId) (cause : SignCause) (s : State) : State :=
  let r := s.signs.get n
  let c := s.cfg.signs.get n
  raise (.sign n c.station r.transfer cause r.showing r.imagePage r.chunk c.chunkCount r.restart) s

/-- The page the selector names. -/
def Sign.shown (r : Sign) : List Nat :=
  match r.showing with
  | .active => r.active
  | .preempt => r.preempt

/-- R184: a start or a restart of a transfer, with its notice. -/
def startTransfer (n : SignId) (cause : SignCause) (s : State) : State :=
  let r := s.signs.get n
  signNotice n cause (s.putSign n { r with
    transfer := .sending, image := some r.shown, imagePage := some r.showing, chunk := some 0, restart := false })

/-- R184: restart pending becomes yes. -/
def setRestart (n : SignId) (s : State) : State :=
  s.putSign n { s.signs.get n with restart := true }

/-- R184, R186: a transfer that must start while its station is lost waits in SUSPENDED. -/
def suspendFresh (n : SignId) (s : State) : State :=
  let r := s.signs.get n
  signNotice n .suspended (s.putSign n { r with transfer := .suspended, chunk := some 0, restart := true })

/-- R184: new content for the page being shown. -/
def newContent (n : SignId) (s : State) : State :=
  match (s.signs.get n).transfer with
  | .idle => if s.signServed n then startTransfer n .started s else suspendFresh n s
  | .sending => if s.signBusy n then setRestart n s else startTransfer n .restarted s
  | .suspended => setRestart n s

/-- R84, R183: the Preemption Unit sets the showing selector of a configured sign; a setting to its present value is
not made. -/
def showPage (n : SignId) (page : Showing) (s : State) : State :=
  let r := s.signs.get n
  if r.showing = page || (s.cfg.signs.get n).station.isNone then s
  else newContent n (s.putSign n { r with showing := page })

/-- R84: the linked sign of a channel, if any. -/
def showLinked (p : PreemptId) (page : Showing) (s : State) : State :=
  match (s.cfg.preempt.get p).sign with
  | none => s
  | some n => showPage n page s

/-- R186: the station of a sign is lost. An IDLE transfer with restart pending, which a commit during its last
transaction leaves, is suspended as R185 says of a restart not made (log entry 15). -/
def signLost (n : SignId) (offline : Bool) (s : State) : State :=
  let r := s.signs.get n
  match r.transfer with
  | .sending =>
    signNotice n .suspended (s.putSign n { r with transfer := .suspended, restart := r.restart || offline })
  | .idle => if r.restart then suspendFresh n s else s
  | .suspended => s

/-- R187: the station of a sign returns to service. -/
def signBack (n : SignId) (restored : Bool) (s : State) : State :=
  let r := s.signs.get n
  match r.transfer with
  | .idle => if restored then startTransfer n .started s else s
  | .suspended =>
    if restored || r.restart then startTransfer n .started s
    else signNotice n .resumed (s.putSign n { r with transfer := .sending })
  | .sending => s

/-- R179, R185: a restart that is made at this moment. With its station lost the transfer waits in SUSPENDED with
restart pending (log entry 15). -/
def restartNow (n : SignId) (s : State) : State :=
  let r := s.signs.get n
  if s.signServed n then startTransfer n (if r.transfer = .sending then .restarted else .started) s
  else
    match r.transfer with
    | .idle => suspendFresh n s
    | .sending => signNotice n .suspended (s.putSign n { r with transfer := .suspended, restart := true })
    | .suspended => setRestart n s

/-! ### Chunks (R176, R185) -/

/-- The 64 cells of a chunk of an image, filled out with 0 cells. -/
def chunkOf (image : List Nat) (k : Nat) : List Nat :=
  let part := (image.drop (64 * k)).take 64
  part ++ List.replicate (64 - part.length) 0

/-- The transaction the Sign Store names at a grant (R185). -/
def nextJob (n : SignId) (s : State) : Job :=
  let k := (s.signs.get n).chunk.getD 0
  if k < (s.cfg.signs.get n).chunkCount then .chunk n k else .flip n

/-- R185: the outcome of a CHUNK or a FLIP reaches the Sign Store. `good` says that it was acknowledged, and that no
commit since its grant has restarted the sign or made it absent (R179); `lost` that it has taken the sign's station
out of service. -/
def signOutcome (n : SignId) (job : Job) (good lost : Bool) (s : State) : State :=
  let r := s.signs.get n
  if (s.cfg.signs.get n).station.isNone then s
  else if r.restart then if lost then s else restartNow n s
  else if !good || r.transfer != .sending then s
  else
    match job with
    | .flip _ =>
      signNotice n .flipped (s.putSign n { r with
        transfer := .idle, image := none, imagePage := none, chunk := none })
    | _ => s.putSign n { r with chunk := r.chunk.map (· + 1) }

end Sys2Proof.Machine
end

