-- ==== Sys2Proof/Machine/Sequences.lean ====
section
/-! DEFINITION. Machine/Sequences.lean: the preemption sequences (chapter 4), and the consequences that follow one
another at one moment in the signal core: `settle`. -/

namespace Sys2Proof.Machine

/-- How many members of a detector source have the cause. -/
def countCause (cause : SourceCause) (l : List (ChannelId × SourceCause)) : Nat :=
  (l.filter fun m => m.2 == cause).length

/-- R86: a PREEMPT notice with the record as it stands. The rule gives its three counts by cause no order. DESIGN CHOICE
(log entry 11): that of the causes in Table 4-1, OCCUPIED, PRESSED, FAILED. -/
def preemptNotice (p : PreemptId) (cause : PreemptCause) (s : State) : State :=
  let r := s.preempt.get p
  raise (.preempt p r.state cause r.overridden r.host (countCause .occupied r.sources)
    (countCause .pressed r.sources) (countCause .failed r.sources) r.truncated) s

/-- The channels below a channel, from the highest. -/
def lowerThan (p : PreemptId) : List PreemptId := (List.finRange 4).filter fun q => p.val < q.val

/-- The channels above a channel. -/
def higherThan (p : PreemptId) : List PreemptId := (List.finRange 4).filter fun q => q.val < p.val

/-- R82: a lower channel in DELAY goes to PENDING when a higher one enters DELAY. -/
def holdBack (q : PreemptId) (s : State) : State :=
  let r := s.preempt.get q
  if r.state = .delay then
    preemptNotice q .displaced (s.putPreempt q { r with state := .pending, phase := none })
  else s

/-- R75, R76, R82, R83: a channel enters DELAY. R82 gives its PREEMPT notice and that of a lower channel sent from DELAY to
PENDING no order. DESIGN CHOICE (log entry 36): the entering channel's first. -/
def enterDelay (p : PreemptId) (cause : PreemptCause) (s : State) : State :=
  forEach (lowerThan p) holdBack
    (preemptNotice p cause (s.putPreempt p { s.preempt.get p with state := .delay, phase := some 0 }))

/-- R82: a lower channel in CLEARING, TRACK or DWELL is displaced by `p`. -/
def displace (p q : PreemptId) (s : State) : State :=
  if (s.preempt.get q).working then
    let s1 := removeEntries (fun e => e.origin == .preempt q) .cancelledByPreempt s
    let shared := (s.cfg.preempt.get q).sign.isSome && (s.cfg.preempt.get q).sign == (s.cfg.preempt.get p).sign
    let s2 := if shared then s1 else showLinked q .active s1
    let r := s2.preempt.get q
    preemptNotice q .displaced (s2.putPreempt q { r with
      state := if r.asserted then .pending else .idle, overridden := r.asserted, phase := none })
  else s

/-- R77: a channel enters CLEARING. The rules do not say whether greens ended at this very moment (R78) count in the
truncated of the PREEMPT notice. DESIGN CHOICE (log entry 36): the notice is raised before them, so it carries 0. Nor do
they place these ends before or after the grants of the queue scan (R41) and the channel's passing on to TRACK (R79).
DESIGN CHOICE (log entry 36): before both. -/
def enterClearing (p : PreemptId) (cause : PreemptCause) (s : State) : State :=
  let s1 := forEach (lowerThan p) (displace p) s
  let s2 := s1.putPreempt p { s1.preempt.get p with
    state := .clearing, phase := none, truncated := 0, overridden := false }
  let s3 := removeEntries (fun e => e.origin == .host) .cancelledByPreempt s2
  let s4 := insertHead p (s.cfg.preempt.get p).track s3
  truncateAll (preemptNotice p cause (showLinked p .preempt s4))

/-- R79: a channel enters TRACK. -/
def enterTrack (p : PreemptId) (s : State) : State :=
  preemptNotice p .trackStart (s.putPreempt p { s.preempt.get p with state := .track, phase := some 0 })

/-- R80: a channel enters DWELL. Greens ended at this very moment (R78) do not count in the truncated of the PREEMPT notice,
which is raised before them, and they end before the scan's grants and before the channel passes on: DESIGN CHOICE (log
entry 36), as at the entry to CLEARING. -/
def enterDwell (p : PreemptId) (s : State) : State :=
  let r := s.preempt.get p
  let s1 := s.putPreempt p { r with
    state := .dwell, phase := some 0, sources := r.sources.filter fun m => m.2 != .pressed }
  let groups := (List.finRange 24).filter fun g => (s.cfg.preempt.get p).dwell.contains g
  truncateAll (preemptNotice p .dwellStart (insertHead p groups s1))

/-- R83: the highest PENDING channel starts, where it may: at CLEARING at an exit from DWELL or when it is marked
overridden, at DELAY otherwise. -/
def startPending (fromExit : Bool) (s : State) : State :=
  match (List.finRange 4).find? fun p => (s.preempt.get p).state == .pending with
  | none => s
  | some p =>
    if s.mode.mode != .run || ((List.finRange 4).any fun q => (s.preempt.get q).state == .delay) ||
        ((higherThan p).any fun q => (s.preempt.get q).working) then s
    else if fromExit || (s.preempt.get p).overridden then enterClearing p .started s
    else enterDelay p .started s

/-- R81: a channel exits from DWELL, and a PENDING one may start (R83). Where the one that starts links the same sign, the
selector changes twice at this moment (R183). DESIGN CHOICE (log entry 42): an idle bus is granted only after both
(`finish`), so the second change restarts the transfer at once, and does not wait for a transaction of the first. -/
def exitDwell (p : PreemptId) (s : State) : State :=
  let s1 := s.putPreempt p { s.preempt.get p with state := .idle, phase := none }
  let s2 := s1.putQueue (s1.queue.map fun e => if e.origin = .preempt p then { e with origin := .host } else e)
  startPending true (preemptNotice p .exit (showLinked p .active s2))

/-! ### Consequences at one moment -/

/-- No group outside the dwell set is in GREEN, PREP or CLEAR (R79). -/
def quietOutside (p : PreemptId) (s : State) : Bool :=
  (List.finRange 24).all fun g => (s.cfg.preempt.get p).dwell.contains g || !(s.groups.get g).serving

/-- Every track group is in GREEN (R79). -/
def trackGreen (p : PreemptId) (s : State) : Bool :=
  (s.cfg.preempt.get p).track.all fun g => (s.groups.get g).state == .green

/-- R76, R79, R80: a channel passes on at this moment: out of a DELAY of 0.0, out of CLEARING, out of a TRACK of 0.0,
or, released, out of a DWELL of 0.0. -/
def passOn (p : PreemptId) (s : State) : Option State :=
  let r := s.preempt.get p
  let c := s.cfg.preempt.get p
  match r.state with
  | .delay => if c.delay = 0 then some (enterClearing p .delayEnd s) else none
  | .clearing =>
    if c.track.isEmpty then if quietOutside p s then some (enterDwell p s) else none
    else if trackGreen p s then some (enterTrack p s) else none
  | .track => if c.trackTime = 0 then some (enterDwell p s) else none
  | .dwell => if c.dwellMin = 0 && !r.asserted then some (exitDwell p s) else none
  | _ => none

/-- One consequence at this moment: a channel passes on, or the scan grants an entry (R41). Where both may follow, the
manual gives no order. DESIGN CHOICE (log entry 32): the channel passes on first, the lowest number first, and the
scan then finds the queue as that leaves it. -/
def react (s : State) : Option State :=
  match (List.finRange 4).findSome? fun p => passOn p s with
  | some s1 => some s1
  | none => (findGrant s [] s.queue).map fun e => grant e s

/-- At most `n` consequences, until none is left. -/
def settleIn : Nat → State → State
  | 0, s => s
  | n + 1, s =>
    match react s with
    | none => s
    | some s1 => settleIn n s1

/-- R41, R79, R80: the consequences that follow at this moment in the queue and in the sequences. -/
def settle (s : State) : State := settleIn Config.settleSteps s

/-! ### Assertion and release (R71, R75) -/

/-- R75: a channel becomes asserted. -/
def becomeAsserted (p : PreemptId) (s : State) : State :=
  let r := s.preempt.get p
  if r.state = .idle then
    let busy := (higherThan p).any fun q => (s.preempt.get q).working || (s.preempt.get q).state == .delay
    if s.mode.mode = .run && !busy then enterDelay p .asserted s
    else preemptNotice p .asserted (s.putPreempt p { r with state := .pending })
  else s

/-- R75: a channel becomes released. -/
def becomeReleased (p : PreemptId) (s : State) : State :=
  let r := s.preempt.get p
  match r.state with
  | .pending => preemptNotice p .released (s.putPreempt p { r with state := .idle, overridden := false })
  | .delay =>
    startPending false (preemptNotice p .released (s.putPreempt p { r with state := .idle, phase := none }))
  | .dwell => if (s.cfg.preempt.get p).dwellMin ≤ r.phase.getD 0 then exitDwell p s else s
  | _ => s

/-- R75: the sources of a channel have become those of `r`; a change between asserted and released acts on its
state, with what follows at this moment. Where a failure or a recovery of a detector channel brings it about, what
follows is taken at once, before the rest of R168's steps: DESIGN CHOICE (log entry 35). -/
def changeSources (p : PreemptId) (r : Preempt) (s : State) : State :=
  let before := (s.preempt.get p).asserted
  let s1 := s.putPreempt p r
  if before = r.asserted then s1
  else if r.asserted then settle (becomeAsserted p s1)
  else settle (becomeReleased p s1)

/-- A detector source with a channel in it with the given cause (R73, R74). The source is a set, and R87 gives its members
no order in the reply. DESIGN CHOICE (log entry 11): they stand in the order in which they joined, and a change of
cause keeps a member's place. -/
def withSource (c : ChannelId) (cause : SourceCause) (l : List (ChannelId × SourceCause)) :
    List (ChannelId × SourceCause) :=
  if l.any fun m => m.1 == c then l.map fun m => if m.1 = c then (c, cause) else m else l ++ [(c, cause)]

/-- A detector source without a channel. -/
def withoutSource (c : ChannelId) (l : List (ChannelId × SourceCause)) : List (ChannelId × SourceCause) :=
  l.filter fun m => !(m.1 == c)

/-! ### Departure from RUN (R39, R85) -/

/-- R85: a sequence is abandoned. -/
def abandon (p : PreemptId) (s : State) : State :=
  let r := s.preempt.get p
  if r.working || r.state = .delay then
    let s1 := showLinked p .active s
    preemptNotice p .abandoned (s1.putPreempt p { r with
      state := if r.asserted then .pending else .idle, phase := none })
  else s

/-- R39, R85: the queue is emptied and every sequence abandoned at a departure from RUN. The rules give two channels
abandoned at one departure, a higher in DELAY and a lower at work, no order. DESIGN CHOICE (log entry 36): ascending
channel number. -/
def leaveRun (s : State) : State :=
  let s1 := removeEntries (fun _ => true) .cancelledByMode s
  forEach (List.finRange 4) abandon { s1 with preempt := s1.preempt.map fun r => { r with overridden := false } }

end Sys2Proof.Machine
end

