-- ==== Sys2Proof/Machine/CoreRequests.lean ====
section
/-! DEFINITION. Machine/CoreRequests.lean: the host's requests to the signal core: ENTER, CANCEL, LEAVE, GROUP_FLAGS
and PREEMPT_CALL. Each gives its result code, the items of its reply, and the state it leaves. -/

namespace Sys2Proof.Machine

/-! ### ENTER (R31 to R33, R204) -/

/-- R32: an override brought within min_green to 250.0 s. -/
def clampOverride (s : State) (g : GroupId) (override : Option Nat) : Option Nat :=
  override.map (clampTo (s.groupCfg g).minGreen Config.ageLimit)

/-- The position of a group's entry in the queue, from 1. -/
def positionOf (g : GroupId) (q : List Entry) : Nat := q.findIdx (fun e => e.group == g) + 1

/-- The group has an entry in the queue. -/
def isQueued (g : GroupId) (q : List Entry) : Bool := q.any fun e => e.group == g

/-- R204: the items of the reply to an ENTER that is taken. -/
def bytesOfEnter (position : Nat) (override : Option Nat) : List Byte := byte1 position ++ maybe2 override

/-- R33: the queue with the entry of a group updated in place. -/
def mergeEntry (g : GroupId) (policy : Policy) (override : Option Nat) (q : List Entry) : List Entry :=
  q.map fun e => if e.group = g then { e with policy := policy, maxOverride := override } else e

/-- Table 2-4, its last row (R32): a new entry at the tail, and the scan that follows (R41). -/
def joinQueue (g : GroupId) (policy : Policy) (override : Option Nat) (s : State) : State :=
  settle (conflictAppears g
    (s.putQueue (s.queue ++ [(⟨g, .host, policy, override, s.clock.tenths⟩ : Entry)])))

/-- Table 2-4. -/
def decideEnter (g : GroupId) (policy : Policy) (override : Option Nat) (s : State) : (Result × List Byte) × State :=
  let stored := clampOverride s g override
  if s.mode.mode != .run then ((.wrongMode, []), s)
  else if s.preempting then ((.preempted, []), s)
  else if (s.groups.get g).inhibit then ((.inhibited, []), s)
  else if (s.groups.get g).entering then ((.alreadyGreen, []), s)
  else if isQueued g s.queue then
    ((.merged, bytesOfEnter (positionOf g s.queue) stored), settle (s.putQueue (mergeEntry g policy stored s.queue)))
  else if Config.queueLimit ≤ s.queue.length then ((.queueFull, []), s)
  else
    ((if stored = override then .ok else .clamped, bytesOfEnter (s.queue.length + 1) stored),
      joinQueue g policy stored s)

/-- R31: ENTER. -/
def requestEnter (group : Nat) (policy : Option Policy) (override : Option Nat) (s : State) :
    (Result × List Byte) × State :=
  match objectOf 24 group, policy with
  | some g, some p => if s.kind g = .unused then ((.badIndex, []), s) else decideEnter g p override s
  | _, _ => ((.badIndex, []), s)

/-! ### CANCEL (R34) -/

/-- R34: CANCEL. -/
def requestCancel (group : Nat) (s : State) : Result × State :=
  match objectOf 24 group with
  | none => (.badIndex, s)
  | some g =>
    if s.preempting then (.preempted, s)
    else if isQueued g s.queue then (.ok, settle (s.putQueue (s.queue.filter fun e => !(e.group == g))))
    else if (s.groups.get g).entering then (.tooLate, s)
    else (.notQueued, s)

/-! ### LEAVE (R18) -/

/-- leave_pending becomes yes. -/
def holdLeave (g : GroupId) (s : State) : State := s.putGroup g { s.groups.get g with leavePending := true }

/-- R18: LEAVE. -/
def requestLeave (group : Nat) (s : State) : Result × State :=
  match objectOf 24 group with
  | none => (.badIndex, s)
  | some g =>
    if s.preempting then (.preempted, s)
    else
      match (s.groups.get g).state with
      | .green =>
        if (s.groups.get g).minGreenPassed then (.ok, settle (terminate g .leave s)) else (.deferred, holdLeave g s)
      | .prep => (.deferred, holdLeave g s)
      | _ => (.notGreen, s)

/-! ### GROUP_FLAGS (R56, R57) -/

/-- A GROUP_FLAGS item that passes the checks. -/
structure FlagAction where
  group : GroupId
  inhibit : FlagChange
  recalls : FlagChange
  call : CallChange
  deriving DecidableEq, Repr

/-- R56: one item checked. -/
def checkFlagItem (s : State) (i : FlagItem) : Option FlagAction :=
  match objectOf 24 i.group, i.inhibit, i.recalls, i.call with
  | some g, some inhibit, some recalls, some call =>
    if s.kind g = .unused then none else some ⟨g, inhibit, recalls, call⟩
  | _, _, _, _ => none

/-- R56: every item checked. -/
def checkFlagItems (s : State) : List FlagItem → Option (List FlagAction)
  | [] => some []
  | i :: rest =>
    match checkFlagItem s i, checkFlagItems s rest with
    | some a, some l => some (a :: l)
    | _, _ => none

/-- A flag after a change. -/
def changeFlag (c : FlagChange) (flag : Bool) : Bool :=
  match c with
  | .set => true
  | .clear => false
  | .leave => flag

/-- R57: the sources that stand after a WITHDRAW. -/
def withdrawn (x : Sources) (recalls : Bool) (failedRecall : Nat) : Sources :=
  { detector := false, host := false, recalls := x.recalls && recalls, failed := x.failed && decide (0 < failedRecall) }

/-- R57: the call of an item. -/
def applyCall (g : GroupId) (call : CallChange) (s : State) : State :=
  match call with
  | .latch => latch g .host s
  | .withdraw =>
    let d := s.demand.get g
    s.putDemand g { d with sources := withdrawn d.sources (s.groups.get g).recalls d.failedRecall }
  | .leave => s

/-- R57: one item applied. -/
def applyFlagAction (a : FlagAction) (s : State) : State :=
  let r := s.groups.get a.group
  let s1 := s.putGroup a.group { r with inhibit := changeFlag a.inhibit r.inhibit, recalls := changeFlag a.recalls r.recalls }
  let s2 := if a.recalls = .set && !r.recalls && r.state != .green then latch a.group .recalls s1 else s1
  applyCall a.group a.call s2

/-- GROUP_FLAGS (R56, R57). -/
def requestFlags (items : List FlagItem) (s : State) : Result × State :=
  if items.length = 0 || 24 < items.length then (.badIndex, s)
  else
    match checkFlagItems s items with
    | none => (.badIndex, s)
    | some l => if allDistinct (l.map (·.group)) then (.ok, forEach l applyFlagAction s) else (.badIndex, s)

/-! ### PREEMPT_CALL (R72) -/

/-- The host source that a value asks for. -/
def hostOf : CallValue → Bool
  | .assert => true
  | .release => false

/-- PREEMPT_CALL (R72): the reply carries the channel's state after the request has taken effect. -/
def requestCall (channel : Nat) (value : Option CallValue) (s : State) : (Result × List Byte) × State :=
  match objectOf 4 channel, value with
  | some p, some v =>
    let s1 := changeSources p { s.preempt.get p with host := hostOf v } s
    ((.ok, byte1 (codeOfChanState (s1.preempt.get p).state)), s1)
  | _, _ => ((.badIndex, []), s)

end Sys2Proof.Machine
end

