-- ==== Sys2Proof/Machine/Modes.lean ====
section
/-! DEFINITION. Machine/Modes.lean: the Mode Controller (chapter 5): changes of mode with their orders, the start, the
close, and FAIL_FLASH; and the flash phase, which restarts at some of them (R112). -/

namespace Sys2Proof.Machine

/-! ### The flash phase (R112, R125, R129) -/

/-- A half of the flash phase starts for an output: it matters to a FLASHING one, whose comparison settles anew and
whose current is checked 0.2 s into a lit half. -/
def Output.atHalf (o : Output) (lit committed : Bool) : Output :=
  if o.commanded = .flashing then
    { o with
      expected := lit
      settle := if committed then some Config.settleMs else none
      mismatch := none
      checkIn := if lit && committed then some Config.litCheckMs else o.checkIn }
  else o

/-- A half of the flash phase starts. -/
def startHalf (lit : Bool) (s : State) : State :=
  let at' (o : Output) := o.atHalf lit s.committed.isSome
  { s with
    flash := ⟨lit, 0⟩
    outputs := s.outputs.map fun t => ⟨at' t.red, at' t.amber, at' t.green⟩ }

/-- The configured groups are in FLASH in this mode (R112). -/
def ModeRec.flashing (m : ModeRec) : Bool :=
  match m.mode with
  | .startFlash | .flash | .failFlash => true
  | .configure => m.enteredFrom == some .flash
  | _ => false

/-- R112: the phase restarts at an entry to a flashing mode from one in which the groups were not in FLASH. -/
def restartFlash (before : ModeRec) (s : State) : State :=
  if s.mode.flashing && !before.flashing then startHalf true s else s

/-! ### A change of mode -/

/-- R105: a MODE notice. -/
def modeNotice (before : Mode) (cause : ModeCause) (s : State) : State :=
  raise (.mode s.mode.mode before cause s.committed.isSome) s

/-- The silence timer at an entry to a mode (R95, R104). -/
def silenceAt (limit : Nat) (m : Mode) (before : ModeRec) : Silence :=
  match m with
  | .run => if before.mode = .startRed then if limit = 0 then .stopped else .running 0 else before.silence
  | .runClosing => before.silence
  | _ => .stopped

/-- The mode record at an entry to a mode, and the working configuration (R92 to R99). -/
def setMode (m : Mode) (s : State) : State :=
  { s with
    mode :=
      { mode := m
        enteredFrom := if m = .configure then some s.mode.mode else none
        phase := if m = .startFlash || m = .startRed then some 0 else none
        stage := if m = .runClosing then some .draining else none
        silence := silenceAt s.cfg.global.silence m s.mode }
    working := if m = .configure then some s.cfg else none }

/-- The order that a mode gives the groups (R92, R94, R16). -/
def orderOf (m : Mode) : Option GroupState :=
  match m with
  | .dark => some .off
  | .startFlash | .flash => some .flash
  | .startRed => some .red
  | _ => none

/-- The group order of a mode reaches the groups. -/
def giveOrder (m : Mode) (s : State) : State :=
  match orderOf m with
  | none => s
  | some target => imposeAll target s

/-- An entry to DARK, CONFIGURE, START_FLASH, START_RED, RUN or FLASH (R92 to R95, R100), with its MODE notice. -/
def changeMode (m : Mode) (cause : ModeCause) (s : State) : State :=
  modeNotice s.mode.mode cause (restartFlash s.mode (giveOrder m (setMode m s)))

/-- R95: the entry to RUN: the highest PENDING channel starts at DELAY, and the queue is scanned. The rule does not order
the notices of this moment. DESIGN CHOICE (log entry 27): MODE before the PREEMPT of the channel started. -/
def enterRun (cause : ModeCause) (s : State) : State :=
  settle (startPending false (changeMode .run cause s))

/-! ### The close (R96, R97) -/

/-- R96: CLOSE to a green whose minimum-green event has passed. -/
def closeGreen (g : GroupId) (s : State) : State :=
  if (s.groups.get g).minGreenPassed then terminate g .close s else s

/-- R97: the close stage becomes ALL_RED once every configured group is in RED. -/
def closeCheck (s : State) : State :=
  if s.mode.mode = .runClosing && s.mode.stage = some .draining && s.allRed then
    { s with mode := { s.mode with stage := some .allRed, phase := some 0 } }
  else s

/-- R96: the entry to RUN_CLOSING. The rule gives the greens that it ends at this moment no order. DESIGN CHOICE (log
entry 27): ascending group number. -/
def enterClosing (s : State) : State :=
  closeCheck (modeNotice s.mode.mode .request
    (forEach (List.finRange 24) closeGreen (leaveRun (setMode .runClosing s))))

/-! ### FAIL_FLASH (R99, R100) -/

/-- The queue and the sequences at an entry to FAIL_FLASH: both are given up from RUN (R99). -/
def failRun (before : Mode) (s : State) : State :=
  if before = .run then leaveRun s else s

/-- R99: every audible output is SILENT. -/
def silenceAll (s : State) : State :=
  { s with audio := s.audio.map fun r => { r with pattern := .silent, chirpLeft := 0, patternMs := 0 } }

/-- R99: the mode becomes FAIL_FLASH. The rule gives the greens that it ends at this moment no order, nor the RED_OUT
conditions that end with their reds (R132). DESIGN CHOICE (log entry 27): ascending group number, the one kind of end
among the other. -/
def enterFailFlash (s : State) : State :=
  let s1 := forEach (List.finRange 24) failGroup (failRun s.mode.mode (setMode .failFlash s))
  modeNotice s.mode.mode .fault (restartFlash s.mode (silenceAll s1))

/-- R100: the mode leaves FAIL_FLASH for FLASH when no record of FLASH policy is ACTIVE or LATCHED. -/
def leaveFailFlash (s : State) : State :=
  if s.mode.mode = .failFlash && !s.faults.any FaultRecord.holdsFlash then changeMode .flash .faultCleared s else s

/-! ### MODE_REQUEST (R90, R91) -/

/-- Table 5-3. -/
def actOnModeRequest (m : Mode) (s : State) : Result × State :=
  match s.mode.mode, m with
  | .dark, .dark => (.ok, s)
  | .dark, .configure => (.ok, changeMode .configure .request s)
  | .dark, .run => (.ok, changeMode .startFlash .request s)
  | .dark, .flash => (.ok, changeMode .flash .request s)
  | .configure, .dark => (.ok, changeMode .dark .request s)
  | .configure, .configure => (.ok, s)
  | .configure, .run => (.ok, changeMode .startFlash .request s)
  | .configure, .flash => (.ok, changeMode .flash .request s)
  | .startFlash, .run => (.ok, s)
  | .startFlash, .flash => (.ok, changeMode .flash .request s)
  | .startRed, .run => (.ok, s)
  | .startRed, .flash => (.ok, changeMode .flash .request s)
  | .run, .run => (.ok, s)
  | .run, .flash => (.ok, enterClosing s)
  | .runClosing, .run => (.ok, enterRun .request s)
  | .runClosing, .flash => (.ok, s)
  | .flash, .dark => (.ok, changeMode .dark .request s)
  | .flash, .configure => (.ok, changeMode .configure .request s)
  | .flash, .run => (.ok, changeMode .startFlash .request s)
  | .flash, .flash => (.ok, s)
  | _, _ => (.wrongMode, s)

/-- R90: the checks of MODE_REQUEST, then Table 5-3. -/
def requestMode (m : Option Mode) (s : State) : Result × State :=
  match m with
  | some .dark | some .configure | some .run | some .flash =>
    if s.mode.mode = .failFlash then (.faultLatched, s)
    else if s.committed.isNone && m != some .configure then (.notConfigured, s)
    else actOnModeRequest (m.getD .configure) s
  | _ => (.badIndex, s)

end Sys2Proof.Machine
end

