-- ==== Sys2Proof/Machine/Faults.lean ====
section
/-! DEFINITION. Machine/Faults.lean: the fault table (sections 7.4 to 7.6): occurrences, evictions and clears, the
RED_OUT condition (R132), and what a valid frame does to HOST_SILENT (R104). -/

namespace Sys2Proof.Machine

/-- R136: the first record that meets the test leaves the table. -/
def dropFirst (test : FaultRecord → Bool) : List FaultRecord → Option (List FaultRecord)
  | [] => none
  | r :: rest => if test r then some rest else (dropFirst test rest).map (r :: ·)

/-- R136: the table with room for one more record: a full one loses its oldest CLEARED record, or else its oldest
record of policy REPORT. -/
def makeRoom (l : List FaultRecord) : Option (List FaultRecord) :=
  if l.length < Config.faultLimit then some l
  else
    match dropFirst (fun r => r.state == .cleared) l with
    | some rest => some rest
    | none => dropFirst (fun r => r.policy == .report) l

/-- R134: the record of an occurrence that finds one of its key. -/
def FaultRecord.again (r : FaultRecord) (state : FaultState) (now : Count32) : FaultRecord :=
  { r with state := state, lastSeen := now, occurrences := min 255 (r.occurrences + 1) }

/-- R134, R139: a FLASH-policy record that has become ACTIVE takes the junction to FAIL_FLASH. -/
def tellMode (r : FaultRecord) (s : State) : State :=
  if r.policy = .flash && s.mode.mode != .failFlash then enterFailFlash s else s

/-- R134, R136: an occurrence. `state` is the state the record takes: ACTIVE, or for a momentary kind LATCHED, which
it passes to at the same moment (R135). -/
def occurrence (c : Condition) (state : FaultState) (s : State) : State :=
  match s.faults.find? fun r => r.covers c with
  | some r =>
    let r1 := r.again (if r.state = .active then .active else state) s.clock.uptime
    let s1 := s.putFaults (replaceRecord r1 s.faults)
    if r.state = .active then s1 else tellMode r1 (raise (.fault r1) s1)
  | none =>
    match makeRoom s.faults with
    | none => s
    | some l =>
      let r1 : FaultRecord := ⟨c.kind, c.policy, c.object, state, s.clock.uptime, s.clock.uptime, 1⟩
      tellMode r1 (raise (.fault r1) (s.putFaults (l ++ [r1])))

/-- R133, R134: a condition of the kind and object starts. Nothing is taken while no configuration is committed, nor
when the same condition already stands. -/
def startCondition (kind : FaultKind) (object : FaultObject) (s : State) : State :=
  if s.committed.isNone || s.stands kind object then s
  else
    let c : Condition := ⟨kind, s.policyOfFault kind, object⟩
    occurrence c .active (s.putConditions (s.monitor.conditions ++ [c]))

/-- R128, R135: a momentary fault: its condition ends at the moment it is raised. -/
def momentary (kind : FaultKind) (object : FaultObject) (s : State) : State :=
  if s.committed.isNone then s
  else
    let c : Condition := ⟨kind, s.policyOfFault kind, object⟩
    occurrence c (closedState c.policy) s

/-- R132: RED_OUT of a group starts at the first moment both of its parts hold, and ends when either ceases. -/
def checkRedOut (g : GroupId) (s : State) : State :=
  if s.redOut g then startCondition .redOut (objectOfGroup g) s
  else endCondition .redOut (objectOfGroup g) s

/-- R132: every group. DESIGN CHOICE (log entry 13): in ascending order, each as the one before it leaves it: under policy
FLASH the first RED_OUT takes every group out of RED before the others are examined, and one occurrence is counted. -/
def checkAllRedOut (s : State) : State := forEach (List.finRange 24) checkRedOut s

/-! ### Clearing (R137, R138) -/

/-- A record becomes CLEARED, with its FAULT notice. -/
def clearRecord (r : FaultRecord) (s : State) : State :=
  let r1 := { r with state := FaultState.cleared }
  raise (.fault r1) (s.putFaults (replaceRecord r1 s.faults))

/-- R137: the record that FAULT_CLEAR seeks. -/
def soughtRecord (kind : FaultKind) (object : FaultObject) (l : List FaultRecord) : Option FaultRecord :=
  match l.find? fun r => r.kind == kind && r.policy == .flash with
  | some r => some r
  | none => l.find? fun r => r.kind == kind && r.policy == .report && r.object == object

/-- R137: FAULT_CLEAR. -/
def clearFault (kind : Option FaultKind) (a b : Nat) (s : State) : Result × State :=
  match kind with
  | none => (.badIndex, s)
  | some k =>
    if !objectInRange k a b then (.badIndex, s)
    else if localOnly k then (.localOnly, s)
    else
      match soughtRecord k ⟨a, b⟩ s.faults with
      | none => (.notLatched, s)
      | some r =>
        if r.state = .latched then (.ok, leaveFailFlash (clearRecord r s)) else (.notLatched, s)

/-- R138: one activation of the FAULT_RESET line. -/
def resetFaults (s : State) : State :=
  leaveFailFlash (forEach (s.faults.filter fun r => r.state == .latched) clearRecord s)

/-! ### The silence timer (R104) -/

/-- R104: a valid frame restarts the silence timer where it runs or is expired, and ends the HOST_SILENT condition. -/
def validFrame (s : State) : State :=
  let silence := match s.mode.silence with
    | .stopped => Silence.stopped
    | _ => .running 0
  endCondition .hostSilent objectOfLink { s with mode := { s.mode with silence := silence } }

end Sys2Proof.Machine
end

