-- ==== Sys2Proof/Machine/Monitor.lean ====
section
/-! DEFINITION. Machine/Monitor.lean: the Output Monitor's checks (sections 7.1 to 7.3): voltage comparison, conflict
and clearance checks, and lamp current. -/

namespace Sys2Proof.Machine

/-! ### Voltage comparison (R125, R126) -/

/-- R125: the outcome of comparing an output at this moment. -/
def Output.compared (o : Output) : Output :=
  if o.settle.isSome then o
  else if o.sensed = o.expected then { o with mismatch := none, standing := false }
  else { o with mismatch := some (o.mismatch.getD 0) }

/-- R125: an output is compared; a standing mismatch found in agreement ends its fault's condition. -/
def compareOutput (g : GroupId) (c : Colour) (s : State) : State :=
  let o := s.output g c
  let s1 := s.putOutput g c o.compared
  if o.standing && !o.compared.standing then endCondition (mismatchKind c) (objectOfOutput g c) s1 else s1

/-- R125: the settle time of an output ends. -/
def endSettle (g : GroupId) (c : Colour) (s : State) : State :=
  compareOutput g c (s.putOutput g c { s.output g c with settle := none })

/-- R125, R126: a disagreement has lasted 0.3 s. -/
def raiseMismatch (g : GroupId) (c : Colour) (s : State) : State :=
  startCondition (mismatchKind c) (objectOfOutput g c) (s.putOutput g c { s.output g c with standing := true })

/-! ### Conflict check (R127) -/

def State.putOverlaps (s : State) (l : List Overlap) : State :=
  { s with monitor := { s.monitor with overlaps := l } }

/-- The pair of two groups, the lower first. -/
def pairOf (i j : GroupId) : GroupId × GroupId := if i.val < j.val then (i, j) else (j, i)

/-- The green outputs of both groups are sensed present and the groups conflict. -/
def State.overlapping (s : State) (i j : GroupId) : Bool :=
  s.conflicts i j && (s.output i .green).sensed && (s.output j .green).sensed

/-- An overlap begins to be timed, if it is not timed already. -/
def beginOverlap (i j : GroupId) (s : State) : State :=
  let p := pairOf i j
  if s.monitor.overlaps.any fun o => o.low == p.1 && o.high == p.2 then s
  else s.putOverlaps (s.monitor.overlaps ++ [⟨p.1, p.2, 0, false⟩])

/-- R127: the overlaps that meet the test end, each with its CONFLICT condition where it stands. The rule gives several that
end at one moment no order. DESIGN CHOICE (log entry 38): that in which they began. -/
def endOverlaps (which : Overlap → Bool) (s : State) : State :=
  forEach (s.monitor.overlaps.filter fun o => which o && o.standing)
    (fun o => endCondition .conflict (objectOfPair o.low o.high))
    (s.putOverlaps (s.monitor.overlaps.filter fun o => !which o))

/-- R127: the green output of a group is sensed present or absent. Several overlaps that begin with it are listed by the
other group in ascending number: DESIGN CHOICE (log entry 38). -/
def watchGreen (g : GroupId) (s : State) : State :=
  if (s.output g .green).sensed then
    forEach (List.finRange 24) (fun j s => if j ≠ g && s.overlapping g j then beginOverlap g j s else s) s
  else endOverlaps (fun o => o.low == g || o.high == g) s

/-- R127: the watched pairs are taken anew from the matrix of a commit. Overlaps that begin with it join those that go on, in
ascending order of the pairs: DESIGN CHOICE (log entry 38). -/
def renewOverlaps (s : State) : State :=
  let s1 := endOverlaps (fun o => !s.conflicts o.low o.high) s
  forEach (List.finRange 24) (fun i => forEach (List.finRange 24) fun j s =>
    if i.val < j.val && s.overlapping i j then beginOverlap i j s else s) s1

/-- R127: an overlap has lasted 0.2 s. -/
def raiseConflict (low high : GroupId) (s : State) : State :=
  startCondition .conflict (objectOfPair low high)
    (s.putOverlaps (s.monitor.overlaps.map fun o =>
      if o.low = low && o.high = high then { o with standing := true } else o))

/-! ### Clearance check (R128, log entry 12) -/

/-- R128: a measurement is armed at the moment the green output is sensed absent. No measurement is armed for a group
in FLASH or OFF, nor for an UNUSED one. -/
def armClearance (g : GroupId) (s : State) : State :=
  let state := (s.groups.get g).state
  if state = .flash || state = .off then s.putClearance g .none
  else
    match s.kind g with
    | .unused => s.putClearance g .none
    | .pedestrian => s.putClearance g (.running 0)
    | _ => s.putClearance g (if (s.output g .amber).sensed then .running 0 else .armed)

/-- R128: the amber of a VEHICLE or ARROW group is sensed present after the arming. -/
def startClearance (g : GroupId) (s : State) : State :=
  if s.monitor.clearance.get g = .armed && (s.output g .amber).sensed then s.putClearance g (.running 0) else s

/-- The sensed length of a clearance in milliseconds; absent when none is measured. -/
def Clearance.length : Clearance → Option Nat
  | .none => Option.none
  | .armed => some 0
  | .running ms => some ms

/-- R128: a measurement ends when the red is sensed present while commanded ON, and is judged. -/
def judgeClearance (g : GroupId) (s : State) : State :=
  let red := s.output g .red
  match (s.monitor.clearance.get g).length with
  | none => s
  | some ms =>
    if red.sensed && red.commanded = .on then
      let s1 := s.putClearance g .none
      if ms + Config.clearSlackMs < 100 * (s.groupCfg g).clearTime then momentary .shortClear (objectOfGroup g) s1
      else s1
    else s

/-- R128: what a change of sense of an output does to the measurement of its group. -/
def watchClearance (g : GroupId) (c : Colour) (s : State) : State :=
  match c with
  | .green => if (s.output g .green).sensed then s else judgeClearance g (armClearance g s)
  | .amber => startClearance g s
  | .red => judgeClearance g s

/-! ### A change of sense -/

/-- R125, R127, R128: the voltage sense of an output becomes `present`. Before the first commit no check is made. The rules
give the checks of one change no order. DESIGN CHOICE (log entry 38): the comparison, then the clearance, then the
overlaps. -/
def senseOutput (g : GroupId) (c : Colour) (present : Bool) (s : State) : State :=
  if (s.output g c).sensed = present then s
  else
    let s1 := s.putOutput g c { s.output g c with sensed := present }
    if s1.committed.isNone then s1
    else
      let s2 := watchClearance g c (compareOutput g c s1)
      if c = .green then watchGreen g s2 else s2

/-! ### Lamp current (R129 to R131) -/

/-- R131: the counts and the health after a check made. -/
def Output.classed (o : Output) : CheckResult → Output
  | .low =>
    let n := min 3 (o.lowCount + 1)
    { o with lowCount := n, highCount := 0, bandCount := 0, health := if n = 3 then .low else o.health }
  | .high =>
    let n := min 3 (o.highCount + 1)
    { o with lowCount := 0, highCount := n, bandCount := 0, health := if n = 3 then .high else o.health }
  | .inBand =>
    let n := min 3 (o.bandCount + 1)
    { o with lowCount := 0, highCount := 0, bandCount := n, health := if n = 3 then .ok else o.health }

/-- R129: the schedule goes on after a check made or skipped. -/
def Output.nextCheck (o : Output) : Output :=
  { o with checkIn := if o.commanded = .on then some Config.nextCheckMs else none, dutyChanged := false }

/-- The fault kind of a health, if any (R131). -/
def lampFault : Health → Option FaultKind
  | .ok => none
  | .low => some .lampLow
  | .high => some .lampHigh

/-- R131, R132: the faults that follow a change of health. The rules give RED_OUT and the LAMP faults of one change no
order. DESIGN CHOICE (log entry 38): the end of the one LAMP fault, the start of the other, and RED_OUT's start or end
last. -/
def healthChanged (g : GroupId) (c : Colour) (before after : Health) (s : State) : State :=
  if before = after then s
  else
    let s1 := match lampFault before with
      | none => s
      | some k => endCondition k (objectOfOutput g c) s
    let s2 := match lampFault after with
      | none => s1
      | some k => startCondition k (objectOfOutput g c) s1
    if c = .red then checkRedOut g s2 else s2

/-- The committed I_nom of an output. -/
def State.nominal (s : State) (g : GroupId) (c : Colour) : Nat := ((s.cfg.outputs.get g).get c).iNom

/-- R129 to R131: the current check of an output, skipped after a change of its duty. -/
def checkCurrent (g : GroupId) (c : Colour) (measured : Nat) (s : State) : State :=
  let o := s.output g c
  if o.dutyChanged then s.putOutput g c o.nextCheck
  else
    let o1 := { o.nextCheck.classed (classOf (s.nominal g c) o.duty measured) with lastCurrent := some measured }
    healthChanged g c o.health o1.health (s.putOutput g c o1)

end Sys2Proof.Machine
end

