-- ==== Sys2Proof/Machine/CoreEvents.lean ====
section
/-! DEFINITION. Machine/CoreEvents.lean: the moments that the timers of the signal core and of the Mode Controller
reach: when each is due, and what happens then. -/

namespace Sys2Proof.Machine

/-! ### Groups -/

/-- The prep timer has reached prep_time (R11). -/
def State.prepDue (s : State) (g : GroupId) : Bool :=
  (s.groups.get g).state == .prep && (s.groupCfg g).prepTime ≤ (s.groups.get g).prepTimer

/-- R11: the PREP ends. -/
def endPrep (g : GroupId) (s : State) : State := settle (startGreen g s)

/-- green_elapsed has reached min_green (R9). -/
def State.minGreenDue (s : State) (g : GroupId) : Bool :=
  let r := s.groups.get g
  r.state == .green && !r.minGreenPassed && (s.groupCfg g).minGreen ≤ r.greenElapsed

/-- The causes that act at a minimum-green event (R19, R60, R96). -/
def causesAtMinGreen (s : State) (g : GroupId) : List Reason :=
  (if (s.groups.get g).leavePending then [.leave] else []) ++
  (if ((s.demand.get g).timers.map (·.gap)) = some .expired then [.gap] else []) ++
  (if s.mode.mode = .runClosing then [.close] else [])

/-- R9: the minimum-green event. Of the causes that act at it, which is taken first is free (R13, log entry 7). -/
def minimumGreen (g : GroupId) (s : State) : State :=
  let s1 := s.putGroup g { s.groups.get g with minGreenPassed := true }
  match takeFirst (causesAtMinGreen s1 g) s1 with
  | (none, s2) => s2
  | (some reason, s2) => settle (terminate g reason s2)

/-- The clear timer has reached clear_time (R15). -/
def State.clearDue (s : State) (g : GroupId) : Bool :=
  (s.groups.get g).state == .clear && (s.groupCfg g).clearTime ≤ (s.groups.get g).clearTimer

/-- R15: the clearance ends, and with it the close may reach its all-red (R97). The rules give what may follow from the red
at this moment no order. DESIGN CHOICE (log entry 38): the clearance is judged (R128), then RED_OUT is examined (R132),
then the queue is scanned (R41), each as the one before leaves it: a SHORT_CLEAR takes the group out of RED before
RED_OUT is examined. -/
def endClear (g : GroupId) (s : State) : State :=
  let s1 := changeGroup g { s.groups.get g with state := .red, clearTimer := 0, redAge := 0 } s
  settle (closeCheck (checkRedOut g (judgeClearance g s1)))

/-- red_age has reached min_red, and an entry of the group may now be granted (R7). -/
def State.minRedDue (s : State) (g : GroupId) : Bool :=
  (s.groups.get g).state == .red && (s.groupCfg g).minRed ≤ (s.groups.get g).redAge

/-- The green of a group is past the preempt_min of the working channel (R78). -/
def State.truncateDue (s : State) (g : GroupId) : Bool := s.truncates g

/-! ### Timers of an ACTUATED green -/

/-- The gap timer has run out (R59). -/
def State.gapDue (s : State) (g : GroupId) : Bool :=
  ((s.demand.get g).timers.map (·.gap)) == some (.running 0)

/-- R59, R60: the gap timer becomes EXPIRED. -/
def expireGap (g : GroupId) (s : State) : State := settle (gapOut g (setGap g .expired s))

/-- The max timer has reached its limit (R62). -/
def GreenTimers.overMax (t : GreenTimers) : Bool :=
  match t.elapsed with
  | none => false
  | some e => t.limit ≤ e

/-- The max timer of a group's green has reached its limit (R62). -/
def State.maxDue (s : State) (g : GroupId) : Bool :=
  match (s.demand.get g).timers with
  | none => false
  | some t => t.overMax && (s.groups.get g).state == .green

/-- R62: the green ends by MAX. -/
def endByMax (g : GroupId) (s : State) : State := settle (terminate g .max s)

/-! ### Preemption -/

/-- The phase timer of a channel in the given state has reached a time. -/
def Preempt.reached (r : Preempt) (state : ChanState) (time : Nat) : Bool :=
  r.state == state && time ≤ r.phase.getD 0

def State.delayDue (s : State) (p : PreemptId) : Bool :=
  (s.preempt.get p).reached .delay (s.cfg.preempt.get p).delay

def State.trackDue (s : State) (p : PreemptId) : Bool :=
  (s.preempt.get p).reached .track (s.cfg.preempt.get p).trackTime

def State.dwellDue (s : State) (p : PreemptId) : Bool :=
  (s.preempt.get p).reached .dwell (s.cfg.preempt.get p).dwellMin && !(s.preempt.get p).asserted

/-! ### Modes -/

/-- The phase timer has reached a time. -/
def ModeRec.phaseReached (m : ModeRec) (time : Nat) : Bool := time ≤ m.phase.getD 0

def State.startFlashDue (s : State) : Bool :=
  s.mode.mode == .startFlash && s.mode.phaseReached s.cfg.global.startFlash

def State.startRedDue (s : State) : Bool :=
  s.mode.mode == .startRed && s.mode.phaseReached s.cfg.global.startRed

def State.closeDue (s : State) : Bool :=
  s.mode.mode == .runClosing && s.mode.stage == some .allRed && s.mode.phaseReached s.cfg.global.startRed

/-- The silence timer has reached the silence limit (R104). -/
def State.silenceDue (s : State) : Bool :=
  match s.mode.silence with
  | .running e => 10 * s.cfg.global.silence ≤ e
  | _ => false

/-- R94: START_RED begins. -/
def beginStartRed (s : State) : State := checkAllRedOut (changeMode .startRed .timer s)

/-- R104: the silence timer becomes expired, and HOST_SILENT is raised. -/
def expireSilence (s : State) : State :=
  startCondition .hostSilent objectOfLink { s with mode := { s.mode with silence := .expired } }

end Sys2Proof.Machine
end

