-- ==== Sys2Proof/Decode.lean ====
section
/-! DEFINITION. Decode.lean: the KIND and BODY of a host frame as a request (R194, R202, R204, Tables 12-2, 12-5 and
12-8), the KIND and BODY of a request, and the reading of a table word. No row of spec/opcode_table.json gives bits, so
no word spells a command: the manual's commands are frames of bytes, pins and moments. -/

namespace Sys2Proof

open Machine

/-! ### KIND codes (Table 12-2) -/

/-- The KIND of a request; `none` for a command that no frame carries. -/
def requestKind : Instr → Option Byte
  | .enter _ _ _ => some 0x01
  | .cancel _ => some 0x02
  | .leave _ => some 0x03
  | .groupFlags _ => some 0x04
  | .preemptCall _ _ => some 0x05
  | .modeRequest _ => some 0x06
  | .dim _ _ => some 0x07
  | .dimReset => some 0x08
  | .signWindow _ _ _ _ _ _ => some 0x09
  | .signData _ _ => some 0x0A
  | .signShow _ => some 0x0B
  | .signBlank _ => some 0x0C
  | .signResume _ => some 0x0D
  | .stationRestore _ => some 0x0E
  | .stationClear _ => some 0x0F
  | .cfgGroup _ _ _ _ _ _ _ _ => some 0x10
  | .cfgMatrixRow _ _ => some 0x11
  | .cfgPreempt _ _ _ _ _ _ _ _ _ => some 0x12
  | .cfgGlobal _ _ _ _ _ => some 0x13
  | .cfgOutput _ _ _ _ => some 0x14
  | .cfgAudio _ _ _ _ _ => some 0x15
  | .cfgStation _ _ _ => some 0x16
  | .cfgBus _ => some 0x17
  | .cfgChannel _ _ _ _ => some 0x18
  | .cfgAccept _ _ _ => some 0x19
  | .cfgSign _ _ _ _ _ => some 0x1A
  | .cfgCommit => some 0x1F
  | .faultClear _ _ _ => some 0x20
  | .groupStatus _ => some 0x21
  | .queueStatus => some 0x22
  | .demandStatus _ => some 0x23
  | .preemptStatus _ => some 0x24
  | .modeStatus => some 0x25
  | .outputStatus _ _ => some 0x26
  | .audioStatus _ => some 0x27
  | .faultStatus => some 0x28
  | .stationStatus _ => some 0x29
  | .channelStatus _ _ => some 0x2A
  | .acceptStatus _ => some 0x2B
  | .signStatus _ => some 0x2C
  | .statusSummary => some 0x2D
  | .reset => some 0x3F
  | .powerOnReset | .cabReset | .faultReset | .hostByteReceived _ _ | .hostInterbyteGap | .frameSent | .prepEnd _
  | .minimumGreenEvent _ | .clearEnd _ | .minRedReached _ | .intergreenBoundReached _ | .startFlashEnd
  | .startRedEnd | .closeAllRedEnd | .silenceTimeout | .gapExpiry _ | .maxLimitReached _ | .delayEnd _
  | .preemptMinReached _ | .trackEnd _ | .dwellMinReached _ | .flashHalfBoundary | .dimRampStep | .chirpEnd _
  | .sensedVoltageChange _ _ _ | .settleEnd _ _ | .mismatchTimeout _ _ | .conflictOverlapTimeout _ _
  | .currentCheck _ _ _ | .cycleBoundary | .halfBoundary | .stationFrameSent | .stationReply _ | .stationReplyGap
  | .replyWindowTimeout | .resetGuardEnd | .stuckLimitExpiry _ => none

/-! ### Reading a BODY -/

/-- A byte as a number. -/
def num (b : Byte) : Nat := b.toNat

/-- Two bytes as a number, high byte first. -/
def num2 (h l : Byte) : Nat := 256 * h.toNat + l.toNat

/-- A list with its count at the front of a body: its members, and what follows it. -/
def readList (body : List Byte) : Option (List Nat × List Byte) :=
  match body with
  | [] => none
  | n :: rest =>
    if n.toNat ≤ rest.length then some ((rest.take n.toNat).map num, rest.drop n.toNat) else none

/-- The items of a GROUP_FLAGS, four bytes each. -/
def readFlagItems : List Byte → Option (List FlagItem)
  | [] => some []
  | g :: i :: r :: c :: rest =>
    (readFlagItems rest).map (⟨num g, flagChangeOf (num i), flagChangeOf (num r), callChangeOf (num c)⟩ :: ·)
  | _ => none

/-- The pairs of a CFG_MATRIX_ROW, three bytes each. -/
def readPairs : List Byte → Option (List (Nat × Nat))
  | [] => some []
  | j :: h :: l :: rest => (readPairs rest).map ((num j, num2 h l) :: ·)
  | _ => none

/-- CFG_PREEMPT after the four times (R68). -/
def readPreempt (p delay preemptMin trackTime dwellMin : Nat) (body : List Byte) : Option Instr :=
  match readList body with
  | none => none
  | some (track, rest) =>
    match readList rest with
    | some (dwell, [sign, fail]) =>
      some (.cfgPreempt p delay preemptMin trackTime dwellMin track dwell (num sign) (flagOf (num fail)))
    | _ => none

/-- CFG_ACCEPT after the station range (R169). -/
def readAccept (index : Nat) (action : Option Action) (first last : Nat) (body : List Byte) : Option Instr :=
  match readList body with
  | none => none
  | some (channels, rest) =>
    match readList rest with
    | none => none
    | some (kinds, rest1) =>
      match readList rest1 with
      | some (operand, []) =>
        some (.cfgAccept index action (some ⟨first, last, channels, kinds.map eventKindOf, operand⟩))
      | _ => none

/-- ENTER: 2 or 4 bytes, an override of 0xFFFF standing for absent (R204). -/
def readEnter : List Byte → Option Instr
  | [g, p] => some (.enter (num g) (policyOf (num p)) none)
  | [g, p, h, l] =>
    some (.enter (num g) (policyOf (num p)) (if num2 h l = 0xFFFF then none else some (num2 h l)))
  | _ => none

/-- CFG_ACCEPT (R169): EMPTY carries nothing after its action. -/
def readAcceptBody : List Byte → Option Instr
  | [i, a] => if actionOf (num a) = some .empty then some (.cfgAccept (num i) (some .empty) none) else none
  | i :: a :: f :: l :: rest =>
    if actionOf (num a) = some .empty then none else readAccept (num i) (actionOf (num a)) (num f) (num l) rest
  | _ => none

/-- A body that is one index. -/
def readOne (make : Nat → Instr) : List Byte → Option Instr
  | [a] => some (make (num a))
  | _ => none

/-- A body that is empty. -/
def readNone (i : Instr) : List Byte → Option Instr
  | [] => some i
  | _ => none

/-- The BODY of a request of the given KIND; the outer `none` is a KIND of no request, the inner a length that the
layout does not allow. -/
def readBody (kind : Nat) (body : List Byte) : Option (Option Instr) :=
  match kind with
  | 0x01 => some (readEnter body)
  | 0x02 => some (readOne .cancel body)
  | 0x03 => some (readOne .leave body)
  | 0x04 => some (match body with
    | n :: rest => if rest.length = 4 * num n then (readFlagItems rest).map .groupFlags else none
    | _ => none)
  | 0x05 => some (match body with
    | [c, v] => some (.preemptCall (num c) (callValueOf (num v)))
    | _ => none)
  | 0x06 => some (match body with
    | [m] => some (.modeRequest (modeOf (num m)))
    | _ => none)
  | 0x07 => some (match body with
    | [t, i] => some (.dim (num t) (intervalOf (num i)))
    | _ => none)
  | 0x08 => some (readNone .dimReset body)
  | 0x09 => some (match body with
    | [n, p, a, b, c, d] => some (.signWindow (num n) (writePageOf (num p)) (num a) (num b) (num c) (num d))
    | _ => none)
  | 0x0A => some (match body with
    | n :: data => if 1 ≤ data.length && data.length ≤ 200 then some (.signData (num n) data) else none
    | _ => none)
  | 0x0B => some (readOne .signShow body)
  | 0x0C => some (readOne .signBlank body)
  | 0x0D => some (readOne .signResume body)
  | 0x0E => some (readOne .stationRestore body)
  | 0x0F => some (readOne .stationClear body)
  | 0x10 => some (match body with
    | [g, k, a, b, c, d, e, f, h, i, j, l, m, n] =>
      some (.cfgGroup (num g) (kindOf (num k)) (num2 a b) (num2 c d) (num2 e f) (num2 h i) (num2 j l) (num2 m n))
    | _ => none)
  | 0x11 => some (match body with
    | g :: n :: rest => if rest.length = 3 * num n then (readPairs rest).map (.cfgMatrixRow (num g)) else none
    | _ => none)
  | 0x12 => some (match body with
    | p :: a :: b :: c :: d :: e :: f :: g :: h :: rest =>
      readPreempt (num p) (num2 a b) (num2 c d) (num2 e f) (num2 g h) rest
    | _ => none)
  | 0x13 => some (match body with
    | [a, b, c, d, e, h, r] =>
      some (.cfgGlobal (num2 a b) (num2 c d) (num e) (faultPolicyOf (num h)) (faultPolicyOf (num r)))
    | _ => none)
  | 0x14 => some (match body with
    | [g, c, d, h, l] => some (.cfgOutput (num g) (colourOf (num c)) (flagOf (num d)) (num2 h l))
    | _ => none)
  | 0x15 => some (match body with
    | [a, g, t, v, c] => some (.cfgAudio (num a) (num g) (num t) (num v) (chirpOf (num c)))
    | _ => none)
  | 0x16 => some (match body with
    | [st, k, u] => some (.cfgStation (num st) (stationKindOf (num k)) (flagOf (num u)))
    | _ => none)
  | 0x17 => some (match body with
    | [h, l] => some (.cfgBus (num2 h l))
    | _ => none)
  | 0x18 => some (match body with
    | [st, c, o, l] => some (.cfgChannel (num st) (num c) (channelOpOf (num o)) (num l))
    | _ => none)
  | 0x19 => some (readAcceptBody body)
  | 0x1A => some (match body with
    | [n, st, w, h, d] => some (.cfgSign (num n) (num st) (num w) (num h) (depthOf (num d)))
    | _ => none)
  | 0x1F => some (readNone .cfgCommit body)
  | 0x20 => some (match body with
    | [k, a, b] => some (.faultClear (faultKindOf (num k)) (num a) (num b))
    | _ => none)
  | 0x21 => some (readOne .groupStatus body)
  | 0x22 => some (readNone .queueStatus body)
  | 0x23 => some (readOne .demandStatus body)
  | 0x24 => some (readOne .preemptStatus body)
  | 0x25 => some (readNone .modeStatus body)
  | 0x26 => some (match body with
    | [g, c] => some (.outputStatus (num g) (colourOf (num c)))
    | _ => none)
  | 0x27 => some (readOne .audioStatus body)
  | 0x28 => some (readNone .faultStatus body)
  | 0x29 => some (readOne .stationStatus body)
  | 0x2A => some (match body with
    | [st, c] => some (.channelStatus (num st) (num c))
    | _ => none)
  | 0x2B => some (readOne .acceptStatus body)
  | 0x2C => some (readOne .signStatus body)
  | 0x2D => some (readNone .statusSummary body)
  | 0x3F => some (readNone .reset body)
  | _ => none

/-- R194 steps 1 and 2: what a valid frame's KIND and BODY stand for. -/
def judgeBody (kind : Byte) (body : List Byte) : Judged :=
  match readBody kind.toNat body with
  | none => .badKind
  | some none => .badLength
  | some (some i) => .request i

/-! ### Writing a BODY -/

/-- A GROUP_FLAGS item as bytes. -/
def writeFlagItem (i : FlagItem) : List Byte :=
  byte1 i.group ++ byte1 (codeOr codeOfFlagChange i.inhibit) ++ byte1 (codeOr codeOfFlagChange i.recalls) ++
    byte1 (codeOr codeOfCallChange i.call)

/-- The BODY of a request (R202). A command that no frame carries has none. -/
def requestBody : Instr → List Byte
  | .enter g p o =>
    byte1 g ++ byte1 (codeOr codeOfPolicy p) ++
      (match o with
        | none => []
        | some t => byte2 t)
  | .cancel g | .leave g | .groupStatus g | .demandStatus g => byte1 g
  | .groupFlags l => byte1 l.length ++ l.flatMap writeFlagItem
  | .preemptCall c v => byte1 c ++ byte1 (codeOr codeOfCallValue v)
  | .modeRequest m => byte1 (codeOr codeOfMode m)
  | .cfgGroup g k a b c d e f =>
    byte1 g ++ byte1 (codeOr codeOfKind k) ++ byte2 a ++ byte2 b ++ byte2 c ++ byte2 d ++ byte2 e ++ byte2 f
  | .cfgMatrixRow g l => byte1 g ++ byte1 l.length ++ l.flatMap fun p => byte1 p.1 ++ byte2 p.2
  | .cfgPreempt p a b c d t w n f =>
    byte1 p ++ byte2 a ++ byte2 b ++ byte2 c ++ byte2 d ++ list1 t ++ list1 w ++ byte1 n ++ byte1 (codeOr codeOfFlag f)
  | .cfgGlobal a b c h r =>
    byte2 a ++ byte2 b ++ byte1 c ++ byte1 (codeOr codeOfFaultPolicy h) ++ byte1 (codeOr codeOfFaultPolicy r)
  | .cfgOutput g c d i => byte1 g ++ byte1 (codeOr codeOfColour c) ++ byte1 (codeOr codeOfFlag d) ++ byte2 i
  | .cfgAudio a g t v c => byte1 a ++ byte1 g ++ byte1 t ++ byte1 v ++ byte1 (codeOr codeOfChirp c)
  | .cfgStation st k u => byte1 st ++ byte1 (codeOr codeOfStationKind k) ++ byte1 (codeOr codeOfFlag u)
  | .cfgBus p => byte2 p
  | .cfgChannel st c o l => byte1 st ++ byte1 c ++ byte1 (codeOr codeOfChannelOp o) ++ byte1 l
  | .cfgAccept i a x =>
    byte1 i ++ byte1 (codeOr codeOfAction a) ++
      (match x with
        | none => []
        | some y =>
          byte1 y.first ++ byte1 y.last ++ list1 y.channels ++ list1 (y.kinds.map (codeOr codeOfEventKind)) ++
            list1 y.operand)
  | .cfgSign n st w h d => byte1 n ++ byte1 st ++ byte1 w ++ byte1 h ++ byte1 (codeOr codeOfDepth d)
  | .dim t i => byte1 t ++ byte1 (codeOr codeOfInterval i)
  | .signWindow n p a b c d =>
    byte1 n ++ byte1 (codeOr codeOfWritePage p) ++ byte1 a ++ byte1 b ++ byte1 c ++ byte1 d
  | .signData n l => byte1 n ++ l
  | .signShow n | .signBlank n | .signResume n | .signStatus n => byte1 n
  | .stationRestore st | .stationClear st | .stationStatus st => byte1 st
  | .faultClear k a b => byte1 (codeOr codeOfFaultKind k) ++ byte1 a ++ byte1 b
  | .preemptStatus p => byte1 p
  | .outputStatus g c => byte1 g ++ byte1 (codeOr codeOfColour c)
  | .audioStatus a => byte1 a
  | .channelStatus st c => byte1 st ++ byte1 c
  | .acceptStatus i => byte1 i
  | .cfgCommit | .dimReset | .queueStatus | .modeStatus | .faultStatus | .statusSummary | .reset => []
  | .powerOnReset | .cabReset | .faultReset | .hostByteReceived _ _ | .hostInterbyteGap | .frameSent | .prepEnd _
  | .minimumGreenEvent _ | .clearEnd _ | .minRedReached _ | .intergreenBoundReached _ | .startFlashEnd
  | .startRedEnd | .closeAllRedEnd | .silenceTimeout | .gapExpiry _ | .maxLimitReached _ | .delayEnd _
  | .preemptMinReached _ | .trackEnd _ | .dwellMinReached _ | .flashHalfBoundary | .dimRampStep | .chirpEnd _
  | .sensedVoltageChange _ _ _ | .settleEnd _ _ | .mismatchTimeout _ _ | .conflictOverlapTimeout _ _
  | .currentCheck _ _ _ | .cycleBoundary | .halfBoundary | .stationFrameSent | .stationReply _ | .stationReplyGap
  | .replyWindowTimeout | .resetGuardEnd | .stuckLimitExpiry _ => []

/-! ### The table's words -/

/-- The command that a word spells by the table's bits. No row of the table gives bits: none. -/
def decodeTableWord (_nbits _w : Nat) : Option Instr := none

end Sys2Proof
end

