-- ==== Sys2Proof/Machine/Lamps.lean ====
section
/-! DEFINITION. Machine/Lamps.lean: dimming (section 6.4), the halves of the flash phase, and the end of a chirp. -/

namespace Sys2Proof.Machine

/-! ### Dimming (R113 to R116) -/

/-- R113: an output takes the duty of a level; a dimmable one reports the change. -/
def Output.dim (o : Output) (dimmable : Bool) (level : Nat) : Output :=
  if dimmable then { o with duty := dutyOf level, dutyChanged := true } else o

/-- R113: the dimming level changes: duties and effective volumes follow. -/
def setLevel (level : Nat) (s : State) : State :=
  { s with
    dimming := { s.dimming with level := level }
    outputs := s.outputs.mapAt fun g t =>
      let c := s.cfg.outputs.get g
      ⟨t.red.dim c.red.dimmable level, t.amber.dim c.amber.dimmable level, t.green.dim c.green.dimmable level⟩
    audio := s.audio.mapAt fun a r => { r with volume := volumeOf (s.cfg.audio.get a).volume level } }

def State.putRamp (s : State) (r : Option Ramp) : State := { s with dimming := { s.dimming with ramp := r } }

/-- R114, Table 6-4: DIM, its target within range. -/
def startDim (target : Nat) (interval : DimInterval) (s : State) : State :=
  if target = s.dimming.level then s.putRamp none
  else s.putRamp (some ⟨target, interval, intervalTenths interval⟩)

/-- R114: the level and the ramp as a DIM reply carries them; one marker byte says that no ramp runs (log entry
11). -/
def bytesOfDimming (d : Dimming) : List Byte :=
  byte1 d.level ++
  match d.ramp with
  | none => byte1 0xFF
  | some r => byte1 r.target ++ byte1 (codeOfInterval r.interval)

/-- DIM (R114): the result, the items after it, and the state. -/
def requestDim (target : Nat) (interval : Option DimInterval) (s : State) : (Result × List Byte) × State :=
  match interval with
  | none => ((.badIndex, []), s)
  | some i =>
    let t := clampTo 1 8 target
    let s1 := startDim t i s
    if t = target then ((.ok, bytesOfDimming s1.dimming), s1)
    else ((.clamped, byte1 1 ++ bytesOfDimming s1.dimming), s1)

/-- R115: one step of the ramp. -/
def rampStep (s : State) : State :=
  match s.dimming.ramp with
  | none => s
  | some r =>
    let level := if s.dimming.level < r.target then s.dimming.level + 1 else s.dimming.level - 1
    setLevel level (s.putRamp (if level = r.target then none else some { r with left := intervalTenths r.interval }))

/-- DIM_RESET (R116). -/
def resetDim (s : State) : State :=
  let s1 := s.putRamp none
  if s.dimming.level = 1 then s1 else setLevel 1 s1

/-! ### The flash phase and the chirp (R112, R122) -/

/-- R112: the other half of the flash phase starts. -/
def flipHalf (s : State) : State := startHalf (!s.flash.lit) s

/-- R120: the pattern of an audible output by its group, no chirp running. -/
def State.steadyPattern (s : State) (a : AudioId) : Pattern :=
  match (s.cfg.audio.get a).group with
  | none => .silent
  | some g => patternOf (s.groups.get g).state

/-- R122: a chirp ends. -/
def endChirp (a : AudioId) (s : State) : State :=
  s.putAudio a { s.audio.get a with pattern := s.steadyPattern a, chirpLeft := 0, patternMs := 0 }

end Sys2Proof.Machine
end

