-- ==== Sys2Proof/Machine/Detectors.lean ====
section
/-! DEFINITION. Machine/Detectors.lean: the Detector Unit (chapter 9): the events of a DATA reply, failed channels,
and the delivery of the actions of the acceptance table (Tables 3-3, 4-3 and 9-4, R121). -/

namespace Sys2Proof.Machine

/-! ### Reports of failure and recovery (R53, R54, R74, R168) -/

/-- R168 step 2, R53, R54: a failed channel names a group. -/
def failForGroup (c : ChannelId) (g : GroupId) (s : State) : State :=
  let d := s.demand.get g
  let s1 := s.putDemand g { d with failedRecall := d.failedRecall + 1 }
  let s2 := if d.failedRecall = 0 && (s.groups.get g).state != .green then latch g .failed s1 else s1
  changeHold g (withHold c .failed (s2.demand.get g).hold) s2

/-- R74: a failed channel names a preemption channel. -/
def failForPreempt (c : ChannelId) (p : PreemptId) (s : State) : State :=
  let r := s.preempt.get p
  let sources := if (s.cfg.preempt.get p).failAssert then withSource c .failed r.sources
    else withoutSource c r.sources
  changeSources p { r with sources := sources } s

/-- R168 step 2: a failure is reported to what it names; hold sets of other groups lose a channel that has left OCCUPIED.
The rule gives the groups named no order, and does not say when, among its steps, the groups that the failure does not
name learn of this. DESIGN CHOICE (log entry 35): the groups named in the order of the operand list; the others after
step 1 and after the groups named, before the preemption channel named and before steps 3 and 4. -/
def reportFailure (c : ChannelId) (named : Option Named) (s : State) : State :=
  match named with
  | none => leaveHolds c s
  | some (.groups l) => leaveHolds c (forEach l (failForGroup c) s)
  | some (.channel p) => failForPreempt c p (leaveHolds c s)

/-- R53, R54: a channel that names a group leaves FAILED. -/
def recoverForGroup (c : ChannelId) (g : GroupId) (s : State) : State :=
  let d := s.demand.get g
  changeHold g (d.hold.filter fun m => !(m == (c, .failed)))
    (s.putDemand g { d with failedRecall := d.failedRecall - 1 })

/-- R74: a channel that names a preemption channel leaves FAILED. -/
def recoverForPreempt (c : ChannelId) (p : PreemptId) (s : State) : State :=
  let r := s.preempt.get p
  changeSources p { r with sources := r.sources.filter fun m => !(m == (c, .failed)) } s

/-- R168: a recovery is reported to what the failure named. The rule gives the groups no order. DESIGN CHOICE (log entry
35): that of the operand list. -/
def reportRecovery (c : ChannelId) (named : Option Named) (s : State) : State :=
  match named with
  | none => s
  | some (.groups l) => forEach l (recoverForGroup c) s
  | some (.channel p) => recoverForPreempt c p s

/-- R168: a CHANNEL notice. -/
def channelNotice (c : ChannelId) (cause : ChannelCause) (named : Option Named) (s : State) : State :=
  raise (.channel c (s.channel c).state cause named) s

/-! ### Selection (R167) -/

/-- The entry's stations and channels contain the channel. -/
def AcceptEntry.contains (e : AcceptEntry) (c : ChannelId) : Bool :=
  e.action != .empty && e.first.val ≤ c.station.val && c.station.val ≤ e.last.val && e.channels.contains c.channel

/-- R167: what the failure of a channel names. -/
def selectNamed (table : Bank 48 AcceptEntry) (c : ChannelId) : Option Named :=
  match table.cells.find? fun e => e.contains c && (e.kinds.contains .occupy || e.kinds.contains .press) with
  | none => none
  | some e =>
    match e.action with
    | .call | .extend | .callExtend | .ped => some (.groups e.groups)
    | .preempt => e.channel.map Named.channel
    | _ => none

/-! ### Changes into and out of FAILED (R168) -/

/-- The cause of a CHANNEL notice at a failure. -/
def noticeOfFailure : FailCause → ChannelCause
  | .chFault => .chFault
  | .stuck => .stuck
  | .station => .station

/-- R168: a channel becomes FAILED. The scan of R41 that a GAP end in step 2 asks for is not one of the rule's steps. DESIGN
CHOICE (log entry 35): after step 4, by the caller's `settle`. -/
def failChannel (cause : FailCause) (c : ChannelId) (s : State) : State :=
  let named := selectNamed s.cfg.accept c
  let s1 := s.putChannel c { s.channel c with
    state := .failed, cause := some cause, occupiedSince := none, named := named }
  channelNotice c (noticeOfFailure cause) named
    (reportFailure c named (startCondition .channelFailed (objectOfChannel c) s1))

/-- R168: a channel leaves FAILED. The scan of R41 stands after the CHANNEL notice: DESIGN CHOICE (log entry 35). -/
def recoverChannel (cause : ChannelCause) (c : ChannelId) (s : State) : State :=
  let r := s.channel c
  let s1 := s.putChannel c { r with state := .idle, cause := none, named := none }
  channelNotice c cause r.named
    (endCondition .channelFailed (objectOfChannel c) (reportRecovery c r.named s1))

/-- R168: a channel leaves OCCUPIED for IDLE. -/
def vacateChannel (c : ChannelId) (s : State) : State :=
  leaveHolds c (s.putChannel c { s.channel c with state := .idle, occupiedSince := none })

/-- The channel is configured in the committed configuration. -/
def State.fitted (s : State) (c : ChannelId) : Bool := (s.stuckLimit c).isSome

/-- R168: the channels of a lost station become FAILED, in ascending order, each taken whole by R168. A green that one of
them ends (R60) lets the queue be scanned (R41), and the rules do not say where among these steps. DESIGN CHOICE (log
entry 35): once, after the last channel, by the caller's `settle`; but where a channel asserts or releases a preemption
channel (`changeSources`), at once. -/
def loseChannels (st : StationId) (s : State) : State :=
  forEach (channelsOf st) (fun c s =>
    if s.fitted c && (s.channel c).state != .failed then failChannel .station c s else s) s

/-- R168: the FAILED channels of a station that returns to service return to IDLE, in ascending order, with the scan of R41
where `loseChannels` has it (DESIGN CHOICE, log entry 35). -/
def returnChannels (st : StationId) (s : State) : State :=
  forEach (channelsOf st) (fun c s =>
    if s.fitted c && (s.channel c).state == .failed then recoverChannel .recovered c s else s) s

/-- R166: the stuck_limit of a channel has been reached by its occupancy. -/
def State.stuck (s : State) (c : ChannelId) : Bool :=
  match s.stuckLimit c, (s.channel c).occupiedSince with
  | some limit, some since =>
    (s.channel c).state == .occupied && 0 < limit && 600 * limit ≤ (s.clock.tenths - since).toNat
  | _, _ => false

/-! ### Delivery of actions (R170, R171) -/

/-- R121: a press starts or restarts the chirp of the group's audible outputs. -/
def chirpGroup (g : GroupId) (s : State) : State :=
  let state := (s.groups.get g).state
  if state = .red || state = .prep || state = .clear then
    { s with
      audio := s.audio.mapAt fun a r =>
        let c := s.cfg.audio.get a
        if c.group = some g then { r with pattern := .chirp, chirpLeft := chirpTenths c.chirp, patternMs := 0 } else r }
  else s

/-- Event kinds by which CALL and PED latch demand (Table 3-3). -/
def callsDemand : EventKind → Bool
  | .occupy | .pulse | .press => true
  | _ => false

/-- Table 3-3, EXTEND. -/
def deliverExtend (c : ChannelId) (kind : EventKind) (g : GroupId) (s : State) : State :=
  let green := (s.groups.get g).state == .green
  match kind with
  | .occupy =>
    let s1 := joinHold g c s
    if green then reloadGap g s1 else s1
  | .pulse => if green then reloadGap g s else s
  | _ => s

/-- Table 3-3, CALL_EXTEND. -/
def deliverCallExtend (c : ChannelId) (kind : EventKind) (g : GroupId) (s : State) : State :=
  if (s.groups.get g).state = .green then deliverExtend c kind g s
  else
    let s1 := if callsDemand kind then latch g .detector s else s
    if kind = .occupy then joinHold g c s1 else s1

/-- Table 3-3, CALL. -/
def deliverCall (kind : EventKind) (g : GroupId) (s : State) : State :=
  if callsDemand kind then latch g .detector s else s

/-- Table 3-3 and R121, PED. -/
def deliverPed (kind : EventKind) (g : GroupId) (s : State) : State :=
  let s1 := deliverCall kind g s
  if kind = .press then chirpGroup g s1 else s1

/-- Table 4-3: an event on the detector source of a preemption channel. -/
def deliverPreempt (c : ChannelId) (kind : EventKind) (p : PreemptId) (s : State) : State :=
  let r := s.preempt.get p
  match kind with
  | .occupy => changeSources p { r with sources := withSource c .occupied r.sources } s
  | .press =>
    if r.state = .dwell then s else changeSources p { r with sources := withSource c .pressed r.sources } s
  | .vacate =>
    changeSources p { r with
      sources := r.sources.filter fun m => !(m.1 == c && (m.2 == .occupied || m.2 == .pressed)) } s
  | _ => s

/-- R171: the merge count of the FORWARD notice of a channel that waits, 0 when none waits. -/
def mergedSoFar (c : ChannelId) (l : List Notice) : Nat :=
  (l.findSome? fun n =>
    match n.body with
    | .forward c' _ _ merged => if c' = c then some merged else none
    | _ => none).getD 0

/-- R171: a FORWARD notice. -/
def deliverForward (c : ChannelId) (kind : EventKind) (s : State) : State :=
  raise (.forward c kind (s.channel c).state (min 255 (mergedSoFar c s.link.notices + 1))) s

/-- R170: the action of the applying entry is delivered. R55 gives the groups of a CALL no order. DESIGN CHOICE (log entry
35): that of the operand list. -/
def deliver (e : AcceptEntry) (c : ChannelId) (kind : EventKind) (s : State) : State :=
  match e.action with
  | .empty | .discard => s
  | .call => forEach e.groups (deliverCall kind) s
  | .extend => forEach e.groups (deliverExtend c kind) s
  | .callExtend => forEach e.groups (deliverCallExtend c kind) s
  | .ped => forEach e.groups (deliverPed kind) s
  | .preempt =>
    match e.channel with
    | none => s
    | some p => deliverPreempt c kind p s
  | .forward => deliverForward c kind s

/-- R170: the first entry of the committed table that matches applies. -/
def matchEvent (c : ChannelId) (kind : EventKind) (s : State) : State :=
  match s.cfg.accept.cells.find? fun e => e.contains c && e.kinds.contains kind with
  | none => s
  | some e => deliver e c kind s

/-! ### Events (R164, R165) -/

/-- Table 9-2, with the reports of R168. -/
def changeByEvent (c : ChannelId) (kind : EventKind) (s : State) : State :=
  let r := s.channel c
  match kind, r.state with
  | .occupy, .idle => s.putChannel c { r with state := .occupied, occupiedSince := some s.clock.tenths }
  | .vacate, .occupied => vacateChannel c s
  | .vacate, .failed => if r.cause = some .stuck then recoverChannel .vacate c s else s
  | .pulse, .idle | .pulse, .occupied => s.putChannel c { r with pulses := min 65535 (r.pulses + 1) }
  | .chFault, .idle | .chFault, .occupied => failChannel .chFault c s
  | .chFault, .failed => s.putChannel c { r with cause := some .chFault }
  | .chOk, .failed => recoverChannel .chOk c s
  | _, _ => s

/-- R164 step 3: the event is matched against the table. -/
def isMatched (kind : EventKind) (state : DetState) : Bool :=
  match kind with
  | .chFault | .chOk => true
  | _ => state != .failed

/-- R164: one event of a configured channel, taken whole. Where step 2 takes the channel out of a hold set and so ends
a green by GAP, or a delivery ends greens, the rules do not place the scan of R41 among the steps. DESIGN CHOICE (log
entry 35): it follows step 3, after the whole delivery and its notices; but where the event asserts or releases a
preemption channel (`changeSources`), what follows there, the scan too, is taken at once. -/
def takeChannelEvent (c : ChannelId) (kind : EventKind) (s : State) : State :=
  let s1 := changeByEvent c kind s
  settle (if isMatched kind (s1.channel c).state then matchEvent c kind s1 else s1)

/-- R164: one event record of a DATA reply. -/
def takeEvent (st : StationId) (channel kind : Nat) (s : State) : State :=
  match objectOf 8 channel, eventKindOf kind with
  | some n, some k => if s.fitted ⟨st, n⟩ then takeChannelEvent ⟨st, n⟩ k s else s
  | _, _ => s

/-- R166: the stuck_limit of a channel expires. -/
def expireStuck (c : ChannelId) (s : State) : State := settle (failChannel .stuck c s)

end Sys2Proof.Machine
end

