-- ==== Sys2Proof/Machine/Stations.lean ====
section
/-! DEFINITION. Machine/Stations.lean: the Station Bus Controller (chapter 8) with the frames of section 12.4: the poll
cycle, the arbiter, transactions, the error score, and the return of stations to service. -/

namespace Sys2Proof.Machine

def State.putBus (s : State) (b : Bus) : State := { s with bus := b }

/-! ### Request frames (Table 12-9) -/

/-- A request frame to a station, with its CHECK over ADDRESS, LENGTH, TYPE and BODY. -/
def requestFrame (st : StationId) (type : Nat) (body : List Byte) : List Byte :=
  let covered := byte1 (numberOf st) ++ byte1 (1 + body.length) ++ byte1 type ++ body
  byte1 0x5A ++ covered ++ word2 (checkOf covered)

/-- The cells of a chunk as bytes. -/
def bytesOfCells (depth : Depth) (cells : List Nat) : List Byte :=
  match depth with
  | .d9 => cells.flatMap byte2
  | _ => cells.flatMap byte1

/-- The request frame of a job (Table 12-9). -/
def frameOf (st : StationId) (job : Job) (s : State) : List Byte :=
  match job with
  | .poll => requestFrame st 1 []
  | .chunk n k =>
    let depth := (s.cfg.signs.get n).depth
    requestFrame st 2 (byte1 k ++ byte1 (busCodeOfDepth depth) ++
      bytesOfCells depth (chunkOf ((s.signs.get n).image.getD []) k))
  | .flip n => requestFrame st 3 (byte1 (s.cfg.signs.get n).chunkCount)

/-! ### The arbiter (R147) -/

/-- The lowest station with a due poll and the given urgent flag. -/
def duePoll (urgent : Bool) (s : State) : Option StationId :=
  (List.finRange 32).find? fun st => (s.stations.get st).due && (s.cfg.stations.get st).urgent == urgent

/-- The order of the signs after the one served last. -/
def signOrder : Option SignId → List SignId
  | none => List.finRange 4
  | some n => (List.finRange 4).filter (fun m => n.val < m.val) ++ (List.finRange 4).filter (fun m => m.val ≤ n.val)

/-- The sign next in turn. -/
def nextSign (s : State) : Option SignId :=
  (signOrder s.bus.lastServed).find? fun n => (s.signs.get n).transfer == .sending && s.signServed n

/-- A grant starts a transaction at once. -/
def beginTransaction (st : StationId) (job : Job) (s : State) : State :=
  s.putBus { s.bus with transaction := some ⟨st, job, frameOf st job s, none, 0, false, false⟩ }

/-- A grant to a sign. -/
def grantSign (n : SignId) (s : State) : State :=
  match (s.cfg.signs.get n).station with
  | none => s
  | some st =>
    let s1 := beginTransaction st (nextJob n s) s
    s1.putBus { s1.bus with lastServed := some n }

/-- R147, R161: a free bus is granted. -/
def arbitrate (s : State) : State :=
  if s.bus.transaction.isSome || s.bus.guardLeft.isSome then s
  else
    match duePoll true s with
    | some st => beginTransaction st .poll s
    | none =>
      match duePoll false s with
      | some st => beginTransaction st .poll s
      | none =>
        match nextSign s with
        | some n => grantSign n s
        | none => s

/-! ### The poll cycle (R145, R146) -/

/-- Table 8-2 at a cycle boundary. -/
def Station.atCycle (r : Station) (urgent : Bool) : Station :=
  match r.state with
  | some .polling => { r with due := true }
  | some .degraded =>
    if urgent then { r with due := true }
    else if r.cycle = 3 then { r with due := true, cycle := 0 }
    else { r with cycle := r.cycle + 1 }
  | _ => r

/-- Table 8-2 at a half boundary. An urgent station that has returned to service is among them, though R156 and R157 name
the next cycle boundary. DESIGN CHOICE (log entry 34): Table 8-2 holds for it from its return on. -/
def Station.atHalf (r : Station) (urgent : Bool) : Station :=
  if r.inService && urgent then { r with due := true } else r

/-- A cycle boundary falls. -/
def cycleStart (s : State) : State :=
  { s with
    bus := { s.bus with cycleMs := 0, halfDone := false }
    stations := s.stations.mapAt fun st r => r.atCycle (s.cfg.stations.get st).urgent }

/-- A half boundary falls. -/
def cycleHalf (s : State) : State :=
  { s with
    bus := { s.bus with halfDone := true }
    stations := s.stations.mapAt fun st r => r.atHalf (s.cfg.stations.get st).urgent }

/-- The time to the boundary at which a station next becomes due (R145, R158; log entry 20, and for an urgent station
that has returned to service log entry 34). -/
def State.nextDue (s : State) (st : StationId) : Option Nat :=
  let r := s.stations.get st
  let period := s.cfg.pollPeriod
  let toCycle := period - s.bus.cycleMs
  if !r.inService then none
  else if (s.cfg.stations.get st).urgent then
    some (if s.bus.halfDone then toCycle else period / 2 - s.bus.cycleMs)
  else if r.state = some .degraded then some (toCycle + (3 - r.cycle) * period)
  else some toCycle

/-! ### Replies (R153, R205) -/

/-- What a reply gives. -/
inductive Verdict where
  | data (events : List (Nat × Nat))
  | ack
  | wait
  | retry
  | fault
  | error
  deriving DecidableEq, Repr

/-- The event records of a body. -/
def eventsOf : List Byte → List (Nat × Nat)
  | c :: k :: rest => (c.toNat, k.toNat) :: eventsOf rest
  | _ => []

/-- The status of a reply whose frame is sound, with its body. -/
def judgeStatus (job : Job) (status length : Nat) (body : List Byte) : Verdict :=
  match status with
  | 0x10 =>
    if job = .poll && length % 2 = 1 && length ≤ 13 then .data (eventsOf body) else .error
  | 0x11 => if length = 1 && job != .poll then .ack else .error
  | 0x12 => if length = 1 then .wait else .error
  | 0x13 => if length = 1 then .retry else .error
  | 0x14 => if length = 1 then .fault else .error
  | _ => .error

/-- R153, R205: the judgement of a reply. Bytes past its CHECK are not part of it. -/
def judgeReply (st : StationId) (job : Job) (bytes : List Byte) : Verdict :=
  match bytes with
  | sync :: address :: length :: status :: rest =>
    let n := length.toNat
    let body := rest.take (n - 1)
    let check := (rest.drop (n - 1)).take 2
    if sync.toNat = 0xA6 && 1 ≤ n && check == word2 (checkOf ([address, length, status] ++ body)) &&
        address.toNat = numberOf st && n + 1 ≤ rest.length then
      judgeStatus job status.toNat n body
    else .error
  | _ => .error

/-! ### The station record at the end of a transaction (R150 to R155) -/

/-- R154, R155: an error. -/
def Station.punish (r : Station) : Station :=
  let score := r.score + Config.errorScore
  if Config.scoreLimit < score then
    { r with state := some .offline, score := Config.scoreLimit, retries := 0, due := false }
  else
    let r1 := { r with score := score, retries := 0, warned := r.warned || Config.warnScore ≤ score }
    if r.state = some .polling && Config.slowScore ≤ score then { r1 with state := some .degraded, cycle := 0 }
    else r1

/-- R150, R154: a good reply. -/
def Station.reward (r : Station) : Station :=
  let score := r.score - 1
  let r1 := { r with score := score, retries := 0, warned := r.warned && Config.warnScore ≤ score }
  if r.state = some .degraded && score < Config.slowScore then { r1 with state := some .polling, cycle := 0 } else r1

/-- A poll that is done stops being due. -/
def Station.done (r : Station) (job : Job) : Station :=
  if job = .poll then { r with due := false } else r

/-- R150 to R153: the record after a verdict that ends the transaction. -/
def Station.after (r : Station) (job : Job) (v : Verdict) : Station :=
  match v with
  | .data _ | .ack => r.reward.done job
  | .retry => if r.retries < 2 then { r with retries := r.retries + 1 } else r.punish.done job
  | .fault => { r with state := some .suspended, retries := 0, due := false }
  | .wait | .error => r.punish.done job

/-! ### Reports (R148, R152, R155, R159) -/

/-- R159: a STATION notice. -/
def stationNotice (st : StationId) (cause : StationCause) (s : State) : State :=
  let r := s.stations.get st
  raise (.station st (s.cfg.stations.get st).kind r.state r.score cause) s

/-- The Detector Unit is told that a station is lost, when it is a detector station. -/
def tellLost (st : StationId) (s : State) : State :=
  if (s.cfg.stations.get st).kind = .detector then loseChannels st s else s

/-- The Detector Unit is told that a station has returned, when it is a detector station. The scan of R41 follows its last
channel (DESIGN CHOICE, log entry 35). -/
def tellReturned (st : StationId) (s : State) : State :=
  if (s.cfg.stations.get st).kind = .detector then settle (returnChannels st s) else s

/-- An operation for the sign configured on a station, if any. -/
def forSignOn (st : StationId) (f : SignId → State → State) (s : State) : State :=
  match s.signOn st with
  | none => s
  | some n => f n s

/-- R152: the fault of a SUSPENDED station starts. -/
def startSuspendFault (st : StationId) (s : State) : State :=
  match (s.cfg.stations.get st).kind with
  | .detector => startCondition .stationFault (objectOfStation st) s
  | .sign => forSignOn st (fun n => startCondition .signFault (objectOfSign n)) s
  | .none => s

/-- R157: the fault of a SUSPENDED station ends. -/
def endSuspendFault (st : StationId) (s : State) : State :=
  match (s.cfg.stations.get st).kind with
  | .detector => endCondition .stationFault (objectOfStation st) s
  | .sign => forSignOn st (fun n => endCondition .signFault (objectOfSign n)) s
  | .none => s

/-- R148 step 3: a change of state is reported (log entry 19). At a loss the scan of R41 follows the last channel, before
the station's own fault and notice (DESIGN CHOICE, log entry 35). -/
def reportState (st : StationId) (before after : Option StationState) (s : State) : State :=
  if before = after then s
  else
    match after with
    | some .offline =>
      forSignOn st (fun n => signLost n true) (stationNotice st .offline
        (startCondition .stationOffline (objectOfStation st) (settle (tellLost st s))))
    | some .suspended =>
      forSignOn st (fun n => signLost n false) (stationNotice st .suspended
        (startSuspendFault st (settle (tellLost st s))))
    | some .degraded => stationNotice st .degraded s
    | some .polling => stationNotice st .recovered s
    | none => s

/-- R154: the warning. -/
def reportWarning (st : StationId) (before after : Bool) (s : State) : State :=
  if !before && after then stationNotice st .warning s else s

/-! ### The end of a transaction (R148) -/

/-- The reply was good (R150). -/
def Verdict.good : Verdict → Bool
  | .data _ | .ack => true
  | _ => false

/-- R148 step 2: the user of the transaction is handed what the reply carried. To a sign that a commit has restarted or
made absent since the grant, the outcome tells no acknowledgement (R179). -/
def handOver (t : Transaction) (v : Verdict) (lost : Bool) (s : State) : State :=
  match t.job with
  | .poll =>
    match v with
    | .data events => if t.stale then s else forEach events (fun e => takeEvent t.station e.1 e.2) s
    | _ => s
  | .chunk n _ | .flip n =>
    signOutcome n t.job (v.good && !t.restartOnly) (lost && (s.cfg.signs.get n).station == some t.station) s

/-- R148, R160: a transaction ends with a verdict. For a station whose kind a commit has changed the outcome is
discarded, but for what a sign's restart waits for (log entry 15). R148 does not place the WARNING notice of R154 among
its steps. DESIGN CHOICE (log entry 19): after step 2 and before the reports of step 3. -/
def endTransaction (t : Transaction) (v : Verdict) (s : State) : State :=
  let s1 := s.putBus { s.bus with transaction := none }
  if t.stale then handOver t v false s1
  else
    let r := s1.stations.get t.station
    let r1 := r.after t.job v
    let s2 := handOver t v (r1.lost && !r.lost) (s1.putStation t.station r1)
    reportState t.station r.state r1.state (reportWarning t.station r.warned r1.warned s2)

/-- R149: a WAIT opens a new window, or as the fifth ends the transaction as a timeout. -/
def takeWait (t : Transaction) (s : State) : State :=
  if t.waits < 4 then
    s.putBus { s.bus with transaction := some { t with waits := t.waits + 1, window := some 0 } }
  else endTransaction t .wait s

/-- R148: a reply is judged. -/
def takeReply (t : Transaction) (bytes : List Byte) (s : State) : State :=
  match judgeReply t.station t.job bytes with
  | .wait => takeWait t s
  | v => endTransaction t v s

/-! ### Return to service (R156, R157, R187) -/

/-- A station record that returns to POLLING. -/
def Station.returned (r : Station) : Station :=
  { r with state := some .polling, score := 0, retries := 0, cycle := 0, warned := false }

/-- R156: an OFFLINE station is returned to service. -/
def restoreStation (st : StationId) (s : State) : State :=
  let s1 := tellReturned st (s.putStation st (s.stations.get st).returned)
  forSignOn st (fun n => signBack n true)
    (stationNotice st .restored (endCondition .stationOffline (objectOfStation st) s1))

/-- R157: a SUSPENDED station is returned to service. -/
def clearStation (st : StationId) (s : State) : State :=
  let s1 := tellReturned st (s.putStation st (s.stations.get st).returned)
  forSignOn st (fun n => signBack n false) (stationNotice st .cleared (endSuspendFault st s1))

/-- STATION_RESTORE (R156). -/
def requestRestore (station : Nat) (s : State) : Result × State :=
  match objectOf 32 station with
  | none => (.badIndex, s)
  | some st =>
    if (s.stations.get st).state = some .offline then (.ok, restoreStation st s) else (.notOffline, s)

/-- STATION_CLEAR (R157). -/
def requestClear (station : Nat) (s : State) : Result × State :=
  match objectOf 32 station with
  | none => (.badIndex, s)
  | some st =>
    if (s.stations.get st).state = some .suspended then (.ok, clearStation st s) else (.notSuspended, s)

/-- SIGN_RESUME (R187). -/
def requestResume (sign : Nat) (s : State) : Result × State :=
  match objectOf 4 sign with
  | none => (.badIndex, s)
  | some n =>
    match (s.cfg.signs.get n).station with
    | none => (.badIndex, s)
    | some st =>
      if (s.signs.get n).transfer = .suspended && (s.stations.get st).state = some .suspended then
        (.ok, clearStation st s)
      else (.notSuspended, s)

end Sys2Proof.Machine
end

