-- ==== Sys2Proof/Machine/Commit.lean ====
section
/-! DEFINITION. Machine/Commit.lean: CFG_COMMIT: the thirteen checks of Table 5-6 in their order (R27, R69, R178, R172,
R119), and what each block does at a successful commit (R103). -/

namespace Sys2Proof.Machine

/-! ### Checks. Each gives the object of its first offence as bytes. -/

/-- The pairs of groups in row-major order (R27). -/
def allPairs : List (GroupId × GroupId) :=
  (List.finRange 24).flatMap fun i => (List.finRange 24).map fun j => (i, j)

/-- The first pair that offends, as the object of a matrix check. -/
def firstPair (offends : GroupId → GroupId → Bool) : Option (List Byte) :=
  (allPairs.find? fun p => offends p.1 p.2).map fun p => byte1 (numberOf p.1) ++ byte1 (numberOf p.2)

/-- The kind of a group in a configuration. -/
def Configuration.kind (w : Configuration) (g : GroupId) : Kind := (w.groups.get g).kind

/-- IG(i,j) is a time in a configuration. -/
def Configuration.conflict (w : Configuration) (i j : GroupId) : Bool := (matrixTime w.matrix i j).isSome

/-- DIAGONAL (R27). -/
def checkDiagonal (w : Configuration) : Option (List Byte) := firstPair fun i j => i == j && w.conflict i j

/-- ASYMMETRIC (R27). -/
def checkAsymmetric (w : Configuration) : Option (List Byte) :=
  firstPair fun i j => w.conflict i j && !w.conflict j i

/-- UNUSED_GROUP of the matrix (R27). -/
def checkMatrixUnused (w : Configuration) : Option (List Byte) :=
  firstPair fun i j => w.conflict i j && (w.kind i == .unused || w.kind j == .unused)

/-- IG_BELOW_CLEAR (R27). -/
def checkBelowClear (w : Configuration) : Option (List Byte) :=
  firstPair fun i j =>
    match matrixTime w.matrix i j with
    | none => false
    | some t => t < (w.groups.get i).clearTime

/-- The pairs of a list, each with the earlier member first. -/
def pairsOf {α : Type} : List α → List (α × α)
  | [] => []
  | a :: rest => rest.map (fun b => (a, b)) ++ pairsOf rest

/-- The first offence among the preemption channels, as an object. -/
def firstChannel (offence : PreemptId → PreemptCfg → Option (List Byte)) (w : Configuration) : Option (List Byte) :=
  (List.finRange 4).findSome? fun p => (offence p (w.preempt.get p)).map fun o => byte1 (numberOf p) ++ o

/-- A pair of groups as bytes, in list order. -/
def bytesOfPair (p : GroupId × GroupId) : List Byte := byte1 (numberOf p.1) ++ byte1 (numberOf p.2)

/-- UNUSED_GROUP of a channel (R69). -/
def checkChannelUnused (w : Configuration) : Option (List Byte) :=
  firstChannel (fun _ c => ((c.track ++ c.dwell).find? fun g => w.kind g == .unused).map fun g =>
    byte1 (numberOf g)) w

/-- TRACK_CONFLICT (R69). -/
def checkTrack (w : Configuration) : Option (List Byte) :=
  firstChannel (fun _ c => ((pairsOf c.track).find? fun p => w.conflict p.1 p.2).map bytesOfPair) w

/-- The pairs that DWELL_CONFLICT examines, in list order, the track list first (R69; log entry 30): a track group
outside the dwell set with a dwell group outside the track list, and two dwell groups. -/
def dwellPairs (c : PreemptCfg) : List (GroupId × GroupId) :=
  (c.track.filter fun t => !c.dwell.contains t).flatMap (fun t =>
    (c.dwell.filter fun d => !c.track.contains d).map fun d => (t, d)) ++ pairsOf c.dwell

/-- DWELL_CONFLICT (R69). -/
def checkDwell (w : Configuration) : Option (List Byte) :=
  firstChannel (fun _ c => ((dwellPairs c).find? fun p => w.conflict p.1 p.2).map bytesOfPair) w

/-- BAD_SIGN (R69). -/
def checkBadSign (w : Configuration) : Option (List Byte) :=
  firstChannel (fun _ c =>
    match c.sign with
    | none => none
    | some n => if (w.signs.get n).station.isNone then some (byte1 (numberOf n)) else none) w

/-- The first sign that offends; a sign whose station is absent is passed over (R178). -/
def firstSign (offends : SignId → SignCfg → StationId → Bool) (w : Configuration) : Option (List Byte) :=
  ((List.finRange 4).find? fun n =>
    match (w.signs.get n).station with
    | none => false
    | some st => offends n (w.signs.get n) st).map fun n => byte1 (numberOf n)

/-- SIGN_TOO_LARGE (R178). -/
def checkSignSize (w : Configuration) : Option (List Byte) :=
  firstSign (fun _ c _ => Config.cellLimit < c.width * c.height) w

/-- SIGN_STATION (R178). -/
def checkSignStation (w : Configuration) : Option (List Byte) :=
  firstSign (fun n _ st => (w.stations.get st).kind != .sign ||
    (List.finRange 4).any fun m => m.val < n.val && (w.signs.get m).station == some st) w

/-- CHANNEL_STATION (R172). -/
def checkChannelStation (w : Configuration) : Option (List Byte) :=
  (allChannels.find? fun c =>
    ((w.channels.get c.station).get c.channel).isSome && (w.stations.get c.station).kind != .detector).map
    bytesOfChannel

/-- ACCEPT_REF (R172). -/
def checkAccept (w : Configuration) : Option (List Byte) :=
  ((List.finRange 48).find? fun i =>
    let e := w.accept.get i
    e.groups.any fun g => w.kind g == .unused || (e.action == .ped && w.kind g != .pedestrian)).map fun i =>
    byte1 (numberOf i)

/-- AUDIO_NOT_PED (R119). -/
def checkAudio (w : Configuration) : Option (List Byte) :=
  ((List.finRange 8).find? fun a =>
    match (w.audio.get a).group with
    | none => false
    | some g => w.kind g != .pedestrian).map fun a => byte1 (numberOf a)

/-- Table 5-6: the checks in the order they are applied, by their order numbers. -/
def commitChecks : List (Nat × (Configuration → Option (List Byte))) :=
  [(1, checkDiagonal), (2, checkAsymmetric), (3, checkMatrixUnused), (4, checkBelowClear), (5, checkChannelUnused),
    (6, checkTrack), (7, checkDwell), (8, checkBadSign), (9, checkSignSize), (10, checkSignStation),
    (11, checkChannelStation), (12, checkAccept), (13, checkAudio)]

/-- R102: the first check that finds an offence, by its order number, and the object it names. -/
def firstOffence (w : Configuration) : Option (Nat × List Byte) :=
  commitChecks.findSome? fun c => (c.2 w).map fun o => (c.1, o)

/-! ### Each block at a successful commit -/

/-- R5: a group's record after a commit. -/
def recommitGroup (before after : Kind) (target : GroupState) (r : Group) : Group :=
  if after = .unused then Group.fresh
  else if before = .unused then { Group.fresh with state := target }
  else { r with state := target }

/-- R5, R109: the groups and their lamps at a commit. -/
def commitGroups (old : Configuration) (s : State) : State :=
  let target : GroupState := if s.mode.enteredFrom = some .flash then .flash else .off
  forEach (List.finRange 24) (fun g s =>
    driveLamps g (s.putGroup g (recommitGroup (old.kind g) (s.kind g) target (s.groups.get g)))) s

/-- R66: the demand records at a commit. -/
def commitDemand (s : State) : State :=
  { s with
    demand := s.demand.mapAt fun g d =>
      if s.kind g = .unused then Demand.fresh else { d with failedRecall := 0, hold := [] } }

/-- R70: one preemption channel at a commit. -/
def commitChannel (p : PreemptId) (s : State) : State :=
  let r := { s.preempt.get p with sources := [] }
  if r.state = .pending && !r.host then
    preemptNotice p .commit (s.putPreempt p { r with state := .idle, overridden := false })
  else s.putPreempt p r

/-- R160: one station at a commit. The rule gives the FAULT notice of a condition that ends here and the STATION notice no
order. DESIGN CHOICE (log entry 27): STATION_OFFLINE and STATION_FAULT end before it; a SIGN_FAULT ends after it, with
the sign's own part (`commitSign`). -/
def commitStation (old : Configuration) (st : StationId) (s : State) : State :=
  let before := (old.stations.get st).kind
  let after := (s.cfg.stations.get st).kind
  if before = after then s
  else
    let r : Station := if after = .none then Station.fresh else { Station.fresh with state := some .polling }
    stationNotice st .commit
      (endCondition .stationFault (objectOfStation st)
        (endCondition .stationOffline (objectOfStation st) (s.putStation st r)))

/-- Table 10-2: the commit restarts the sign or makes it absent. -/
def signChanged (old new : Configuration) (n : SignId) : Bool := old.signs.get n != new.signs.get n

/-- R160, R179: the transaction in flight at a commit: it is marked when its station's kind has changed, and when its
sign has. -/
def commitTransaction (old : Configuration) (s : State) : State :=
  s.putBus { s.bus with
    transaction := s.bus.transaction.map fun t =>
      { t with
        stale := t.stale || (old.stations.get t.station).kind != (s.cfg.stations.get t.station).kind
        restartOnly := t.restartOnly || t.job.sign.any (signChanged old s.cfg) } }

/-- R173: the channels of the new configuration: one that becomes FAILED at the commit is taken whole by R168. -/
def commitDetector (old : Configuration) (c : ChannelId) (s : State) : State :=
  match (old.channels.get c.station).get c.channel, s.stuckLimit c with
  | some _, some _ => if s.stuck c then failChannel .stuck c s else s
  | none, some _ =>
    let s1 := s.putChannel c Channel.fresh
    if (s1.stations.get c.station).lost then failChannel .station c s1 else s1
  | some _, none => endCondition .channelFailed (objectOfChannel c) (s.putChannel c Channel.fresh)
  | none, none => s

/-- R173: a channel that was FAILED before the commit names anew and is reported anew. -/
def renameChannel (c : ChannelId) (s : State) : State :=
  let named := selectNamed s.cfg.accept c
  reportFailure c named (s.putChannel c { s.channel c with named := named })

/-- R173: the Detector Unit at a commit. -/
def commitDetectors (old : Configuration) (s : State) : State :=
  let kept := allChannels.filter fun c =>
    ((old.channels.get c.station).get c.channel).isSome && s.fitted c && (s.channel c).state == .failed
  forEach kept renameChannel (forEach allChannels (commitDetector old) s)

/-- R179: a restart at a commit: with the sign's station OFFLINE or SUSPENDED the transfer goes to SUSPENDED with restart
pending, a transaction in flight or none; otherwise it waits for the transaction in flight, or is made at once. -/
def commitRestart (n : SignId) (s : State) : State :=
  if s.signServed n && s.signBusy n then setRestart n s else restartNow n s

/-- R179, Table 10-2: one sign at a commit. A SIGN_FAULT of a sign whose station or whose station's kind changes ends
(log entry 14), after the STATION notice of that commit and before the sign's own notice (DESIGN CHOICE, log entry
27). A sign made absent while SENDING or SUSPENDED becomes IDLE, and R188 has a SIGN notice at each change of transfer
state but no cause that marks this one. DESIGN CHOICE (log entry 39): no notice is raised. -/
def commitSign (old : Configuration) (n : SignId) (s : State) : State :=
  let a := old.signs.get n
  let b := s.cfg.signs.get n
  let r := s.signs.get n
  let moved := a.station != b.station ||
    (match a.station with
      | none => false
      | some st => (old.stations.get st).kind != (s.cfg.stations.get st).kind)
  let s1 := if moved then endCondition .signFault (objectOfSign n) s else s
  if b.station.isNone then s1.putSign n (if a = b then r else Sign.fresh b.width b.height)
  else if a = b then s1
  else if a.station.isNone || a.width != b.width || a.height != b.height || a.depth != b.depth then
    commitRestart n (s1.putSign n { Sign.fresh b.width b.height with
      transfer := r.transfer, image := r.image, imagePage := r.imagePage, chunk := r.chunk, restart := r.restart })
  else commitRestart n s1

/-- R109: an output whose dimmable flag changes takes its new duty. -/
def Output.redim (o : Output) (before after : Bool) (level : Nat) : Output :=
  if before = after then o else { o with duty := if after then dutyOf level else 100, dutyChanged := true }

/-- R109, R119, R120: the outputs and the audible outputs at a commit. -/
def commitLamps (old : Configuration) (s : State) : State :=
  { s with
    outputs := s.outputs.mapAt fun g t =>
      let a := old.outputs.get g
      let b := s.cfg.outputs.get g
      ⟨t.red.redim a.red.dimmable b.red.dimmable s.dimming.level,
        t.amber.redim a.amber.dimmable b.amber.dimmable s.dimming.level,
        t.green.redim a.green.dimmable b.green.dimmable s.dimming.level⟩
    audio := s.audio.mapAt fun a _ => ⟨s.steadyPattern a, 0, volumeOf (s.cfg.audio.get a).volume s.dimming.level, 0⟩ }

/-- Table 7-5: the comparison of an output begins at the first commit. -/
def Output.firstSettle (o : Output) (lit : Bool) : Output :=
  { o with expected := expectedOf o.commanded lit, settle := some Config.settleMs, mismatch := none }

/-- R125, R127, R128: the Output Monitor at a commit. -/
def commitMonitor (first : Bool) (s : State) : State :=
  let settled (o : Output) := if first then o.firstSettle s.flash.lit else o
  renewOverlaps { s with
    outputs := s.outputs.map fun t => ⟨settled t.red, settled t.amber, settled t.green⟩
    monitor := { s.monitor with clearance := Bank.fill 24 .none } }

/-- R103: a successful commit of the working configuration. The rule gives the blocks and their notices no order. DESIGN
CHOICE (log entry 27): the signal core, the stations, the detector channels, the signs, the Output Monitor, and the
MODE notice last. -/
def applyCommit (w : Configuration) (s : State) : State :=
  let old := s.cfg
  let first := s.committed.isNone
  let s1 := commitDemand (commitGroups old { s with committed := some w })
  let s2 := forEach (List.finRange 4) commitChannel s1
  let s3 := cycleStart (commitTransaction old (forEach (List.finRange 32) (commitStation old) s2))
  let s4 := forEach (List.finRange 4) (commitSign old) (commitDetectors old s3)
  modeNotice s.mode.mode .commit (commitMonitor first (commitLamps old s4))

/-- CFG_COMMIT (R102, R103). -/
def requestCommit (s : State) : (Result × List Byte) × State :=
  match s.mode.mode, s.working with
  | .configure, some w =>
    match firstOffence w with
    | some (order, object) => ((.invalidConfig, byte1 order ++ byte1 order ++ object), s)
    | none => ((.ok, []), applyCommit w s)
  | _, _ => ((.wrongMode, []), s)

end Sys2Proof.Machine
end

