-- ==== Sys2Proof/Machine/Configure.lean ====
section
/-! DEFINITION. Machine/Configure.lean: the CFG_ requests, which edit the working configuration (R4, R26, R68, R101,
R108, R118, R143, R144, R163, R169, R177). Each edit is a function of the working configuration that refuses with
BAD_INDEX (`none`) or gives the count of values brought within range and the new working configuration. -/

namespace Sys2Proof.Machine

/-- A CFG_ request: refused with WRONG_MODE outside CONFIGURE (R93), then by its own checks. -/
def editing (edit : Configuration → Option (Nat × Configuration)) (s : State) : (Result × List Byte) × State :=
  match s.mode.mode, s.working with
  | .configure, some w =>
    match edit w with
    | none => ((.badIndex, []), s)
    | some (count, w1) =>
      ((if count = 0 then (.ok, []) else (.clamped, byte1 count)), { s with working := some w1 })
  | _, _ => ((.wrongMode, []), s)

/-! ### CFG_GROUP (R4) -/

/-- R4: the fields of a group as they are stored. -/
def clampGroup (kind : Kind) (minGreen maxGreen extUnit clearTime prepTime minRed : Nat) : GroupCfg :=
  let low := clampTo 20 600 minGreen
  { kind := kind
    minGreen := low
    maxGreen := max low (clampTo 20 2500 maxGreen)
    extUnit := clampTo 0 100 extUnit
    clearTime := if kind = .pedestrian then clampTo 20 200 clearTime else clampTo 30 60 clearTime
    prepTime := clampTo 0 30 prepTime
    minRed := clampTo 0 100 minRed }

/-- CFG_GROUP (R4). -/
def editGroup (group : Nat) (kind : Option Kind) (minGreen maxGreen extUnit clearTime prepTime minRed : Nat)
    (w : Configuration) : Option (Nat × Configuration) :=
  match objectOf 24 group, kind with
  | some g, some k =>
    let c := clampGroup k minGreen maxGreen extUnit clearTime prepTime minRed
    some (changedCount [(minGreen, c.minGreen), (maxGreen, c.maxGreen), (extUnit, c.extUnit),
      (clearTime, c.clearTime), (prepTime, c.prepTime), (minRed, c.minRed)], { w with groups := w.groups.set g c })
  | _, _ => none

/-! ### CFG_MATRIX_ROW (R26) -/

/-- R26: the row that the pairs give. -/
def rowOf (pairs : List (GroupId × Nat)) : Bank 24 (Option Nat) :=
  Bank.tab fun j => (pairs.find? fun p => p.1 == j).map (·.2)

/-- CFG_MATRIX_ROW (R26). -/
def editRow (group : Nat) (pairs : List (Nat × Nat)) (w : Configuration) : Option (Nat × Configuration) :=
  match objectOf 24 group, objectsOf 24 (pairs.map (·.1)) with
  | some i, some js =>
    if allDistinct js && pairs.all fun p => p.2 ≤ Config.intergreenLimit then
      some (0, { w with matrix := w.matrix.set i (rowOf (js.zip (pairs.map (·.2)))) })
    else none
  | _, _ => none

/-! ### CFG_PREEMPT (R68) -/

/-- An index with 0 for absent: `some none` is absent, `none` is out of range. -/
def maybeObject (n number : Nat) : Option (Option (Fin n)) :=
  if number = 0 then some none else (objectOf n number).map some

/-- CFG_PREEMPT (R68). -/
def editPreempt (channel delay preemptMin trackTime dwellMin : Nat) (track dwell : List Nat) (sign : Nat)
    (failAssert : Option Bool) (w : Configuration) : Option (Nat × Configuration) :=
  match objectOf 4 channel, objectsOf 24 track, objectsOf 24 dwell, maybeObject 4 sign, failAssert with
  | some p, some t, some d, some n, some f =>
    if t.length ≤ 4 && d.length ≤ 8 && allDistinct t && allDistinct d then
      let c : PreemptCfg := ⟨clampTo 0 300 delay, clampTo 0 600 preemptMin, t, clampTo 0 600 trackTime, d,
        clampTo 0 1200 dwellMin, n, f⟩
      some (changedCount [(delay, c.delay), (preemptMin, c.preemptMin), (trackTime, c.trackTime),
        (dwellMin, c.dwellMin)], { w with preempt := w.preempt.set p c })
    else none
  | _, _, _, _, _ => none

/-! ### CFG_GLOBAL (R101) -/

/-- Table 5-5: the silence limit. -/
def clampSilence (silence : Nat) : Nat := if silence = 0 then 0 else clampTo 2 60 silence

/-- CFG_GLOBAL (R101). -/
def editGlobal (startFlash startRed silence : Nat) (hostSilent redOut : Option FaultPolicy) (w : Configuration) :
    Option (Nat × Configuration) :=
  match hostSilent, redOut with
  | some h, some r =>
    let c : GlobalCfg := ⟨clampTo 30 600 startFlash, clampTo 20 100 startRed, clampSilence silence, h, r⟩
    some (changedCount [(startFlash, c.startFlash), (startRed, c.startRed), (silence, c.silence)],
      { w with global := c })
  | _, _ => none

/-! ### CFG_OUTPUT and CFG_AUDIO (R108, R118) -/

/-- A value brought within a range and then to the step of 10 below. -/
def clampStep (low high value : Nat) : Nat := 10 * (clampTo low high value / 10)

/-- CFG_OUTPUT (R108). -/
def editOutput (group : Nat) (colour : Option Colour) (dimmable : Option Bool) (iNom : Nat) (w : Configuration) :
    Option (Nat × Configuration) :=
  match objectOf 24 group, colour, dimmable with
  | some g, some c, some d =>
    let i := clampStep 50 2000 iNom
    some (changedCount [(iNom, i)], { w with outputs := w.outputs.upd g fun t => t.put c ⟨d, i⟩ })
  | _, _, _ => none

/-- CFG_AUDIO (R118). -/
def editAudio (audio group tone volume : Nat) (chirp : Option ChirpLength) (w : Configuration) :
    Option (Nat × Configuration) :=
  match objectOf 8 audio, maybeObject 24 group, chirp with
  | some a, some g, some c =>
    let t := clampTo 1 8 tone
    let v := clampTo 1 8 volume
    some (changedCount [(tone, t), (volume, v)], { w with audio := w.audio.set a ⟨g, t, v, c⟩ })
  | _, _, _ => none

/-! ### CFG_STATION and CFG_BUS (R143, R144) -/

/-- CFG_STATION (R143). -/
def editStation (station : Nat) (kind : Option StationKind) (urgent : Option Bool) (w : Configuration) :
    Option (Nat × Configuration) :=
  match objectOf 32 station, kind, urgent with
  | some st, some k, some u => some (0, { w with stations := w.stations.set st ⟨k, u⟩ })
  | _, _, _ => none

/-- CFG_BUS (R144). -/
def editBus (period : Nat) (w : Configuration) : Option (Nat × Configuration) :=
  let p := clampStep 100 1000 period
  some (changedCount [(period, p)], { w with pollPeriod := p })

/-! ### CFG_CHANNEL and CFG_ACCEPT (R163, R169) -/

/-- How many channels a configuration holds. -/
def Configuration.channelCount (w : Configuration) : Nat :=
  (w.channels.cells.map fun b => (b.cells.filter Option.isSome).length).foldl (· + ·) 0

/-- A configuration with the entry of a channel replaced. -/
def Configuration.putChannel (w : Configuration) (st : StationId) (c : ChannelNo) (v : Option Nat) : Configuration :=
  { w with channels := w.channels.upd st fun b => b.set c v }

/-- CFG_CHANNEL (R163). -/
def editChannel (station channel : Nat) (op : Option ChannelOp) (stuckLimit : Nat) (w : Configuration) :
    Option (Nat × Configuration) :=
  match objectOf 32 station, objectOf 8 channel, op with
  | some st, some c, some .add =>
    if ((w.channels.get st).get c).isNone && Config.channelLimit ≤ w.channelCount then none
    else
      let limit := min 60 stuckLimit
      some (changedCount [(stuckLimit, limit)], w.putChannel st c (some limit))
  | some st, some c, some .remove => some (0, w.putChannel st c none)
  | _, _, _ => none

/-- Every member of a list of codes known, and none twice. -/
def knownKinds : List (Option EventKind) → Option (List EventKind)
  | [] => some []
  | k :: rest =>
    match k, knownKinds rest with
    | some e, some l => some (e :: l)
    | _, _ => none

/-- R169: the groups and the preemption channel of an operand, by the action. -/
def operandOf (action : Action) (operand : List Nat) : Option (List GroupId × Option PreemptId) :=
  match action with
  | .call =>
    match objectsOf 24 operand with
    | some l => if 1 ≤ l.length && l.length ≤ 4 && allDistinct l then some (l, none) else none
    | none => none
  | .extend | .callExtend | .ped =>
    match objectsOf 24 operand with
    | some [g] => some ([g], none)
    | _ => none
  | .preempt =>
    match objectsOf 4 operand with
    | some [p] => some ([], some p)
    | _ => none
  | .forward | .discard | .empty => if operand = [] then some ([], none) else none

/-- R169, Table 9-3: an entry that the table allows. -/
def acceptEntryOf (action : Action) (a : AcceptArg) : Option AcceptEntry :=
  match objectOf 32 a.first, objectOf 32 a.last, objectsOf 8 a.channels, knownKinds a.kinds,
      operandOf action a.operand with
  | some first, some last, some channels, some kinds, some (groups, channel) =>
    if first.val ≤ last.val && 1 ≤ channels.length && channels.length ≤ 8 && allDistinct channels &&
        1 ≤ kinds.length && kinds.length ≤ 6 && allDistinct kinds then
      some ⟨action, first, last, channels, kinds, groups, channel⟩
    else none
  | _, _, _, _, _ => none

/-- CFG_ACCEPT (R169). -/
def editAccept (index : Nat) (action : Option Action) (arg : Option AcceptArg) (w : Configuration) :
    Option (Nat × Configuration) :=
  match objectOf 48 index, action, arg with
  | some i, some .empty, _ => some (0, { w with accept := w.accept.set i AcceptEntry.blank })
  | some i, some a, some x => (acceptEntryOf a x).map fun e => (0, { w with accept := w.accept.set i e })
  | _, _, _ => none

/-! ### CFG_SIGN (R177) -/

/-- CFG_SIGN (R177). -/
def editSign (sign station width height : Nat) (depth : Option Depth) (w : Configuration) :
    Option (Nat × Configuration) :=
  match objectOf 4 sign, maybeObject 32 station, depth with
  | some n, some st, some d =>
    let x := clampTo 8 128 width
    let y := clampTo 8 48 height
    some (changedCount [(width, x), (height, y)], { w with signs := w.signs.set n ⟨st, x, y, d⟩ })
  | _, _, _ => none

end Sys2Proof.Machine
end

