-- ==== Sys2Proof/Machine/Resets.lean ====
section
/-! DEFINITION. Machine/Resets.lean: the power-on reset and CAB_RESET (R106 and each block's table), and the link reset
(R200). -/

namespace Sys2Proof.Machine

/-- What the voltage senses show is not changed by a reset (Table 7-5). -/
def keepSense (before after : Bank 24 (Trio Output)) : Bank 24 (Trio Output) :=
  after.mapAt fun g t =>
    let b := before.get g
    ⟨{ t.red with sensed := b.red.sensed }, { t.amber with sensed := b.amber.sensed },
      { t.green with sensed := b.green.sensed }⟩

/-- A power-on reset: the values of every block's table, with the senses as sensed. The commands that wait outside the
part, and the model's own count of free choices, are not the part's (log entry 29). A frame that was leaving the host
line is dropped, although R196 has each frame leave whole once begun: DESIGN CHOICE (log entry 40). -/
def powerOn (s : State) : State :=
  { State.reset with
    outputs := keepSense s.outputs State.reset.outputs
    choices := s.choices
    pending := s.pending }

/-! ### The link reset -/

/-- R106: the mode that a link reset enters. -/
def modeAfterReset (s : State) : Mode :=
  if s.faults.any FaultRecord.holdsFlash then .failFlash else if s.committed.isSome then .startFlash else .dark

/-- Table 1-8: a group after a link reset. -/
def groupAfterReset (kind : Kind) (m : Mode) : Group :=
  if kind = .unused || m = .dark then Group.fresh else { Group.fresh with state := .flash }

/-- Tables 6-7 and 7-5: an output after a link reset. -/
def Output.afterReset (o : Output) (command : Command) (committed : Bool) : Output :=
  { o with
    commanded := command
    duty := 100
    dutyChanged := o.dutyChanged || o.duty != 100
    expected := expectedOf command true
    settle := if committed then some Config.settleMs else none
    mismatch := none
    checkIn := if committed && command = .flashing then some Config.litCheckMs
      else if committed && command = .on then some Config.firstCheckMs else none }

/-- Table 8-6: a station after a link reset, before the boundary of the restart. -/
def stationAfterReset (kind : StationKind) : Station :=
  if kind = .none then Station.fresh else { Station.fresh with state := some .polling }

/-- Table 10-4: a sign after a link reset. -/
def signAfterReset (c : SignCfg) (r : Sign) : Sign :=
  { draft := r.draft
    active := r.active
    preempt := r.preempt
    window := Window.whole c.width c.height
    showing := .active
    transfer := if c.station.isSome then .sending else .idle
    image := if c.station.isSome then some r.active else none
    imagePage := if c.station.isSome then some .active else none
    chunk := if c.station.isSome then some 0 else none
    restart := false }

/-- Table 7-5: the overlaps after a link reset. -/
def overlapAfterReset (o : Overlap) : Overlap := if o.standing then o else { o with ms := 0 }

/-- Every block takes its link-reset values (Tables 1-8 to 11-5), and RESET_DONE joins the empty queue. -/
def blocksAfterReset (s : State) : State :=
  let m := modeAfterReset s
  let committed := s.committed.isSome
  let command (g : GroupId) (c : Colour) := commandOf (s.kind g) (groupAfterReset (s.kind g) m).state c
  raise (.resetDone m committed s.link.holding.isSome s.clock.uptime) (cycleStart { s with
    mode := ⟨m, none, if m = .startFlash then some 0 else none, none, .stopped⟩
    working := none
    groups := Bank.tab fun g => groupAfterReset (s.kind g) m
    queue := []
    demand := Bank.fill 24 Demand.fresh
    preempt := Bank.fill 4 Preempt.fresh
    outputs := s.outputs.mapAt fun g t =>
      ⟨t.red.afterReset (command g .red) committed, t.amber.afterReset (command g .amber) committed,
        t.green.afterReset (command g .green) committed⟩
    dimming := ⟨1, none⟩
    flash := ⟨true, 0⟩
    audio := Bank.tab fun a => ⟨.silent, 0, (s.cfg.audio.get a).volume, 0⟩
    monitor := { s.monitor with
      overlaps := s.monitor.overlaps.map overlapAfterReset
      clearance := Bank.fill 24 .none }
    stations := Bank.tab fun st => stationAfterReset (s.cfg.stations.get st).kind
    bus := ⟨0, false, none, none, some Config.guardMs⟩
    channels := Bank.fill 32 (Bank.fill 8 Channel.fresh)
    signs := s.signs.mapAt fun n r => signAfterReset (s.cfg.signs.get n) r
    link := Link.fresh })

/-- The kinds whose conditions the link reset ends (R132, R161, R175). -/
def endsAtReset (k : FaultKind) : Bool :=
  match k with
  | .redOut | .stationOffline | .stationFault | .channelFailed | .signFault => true
  | _ => false

/-- R200, R141: the link reset; the FAULT notices of the conditions it ends follow RESET_DONE. Among themselves the manual
gives them no order. DESIGN CHOICE (log entry 27): that in which the conditions started. -/
def linkReset (s : State) : State :=
  forEach (s.monitor.conditions.filter fun c => endsAtReset c.kind) (fun c => endCondition c.kind c.object)
    (blocksAfterReset s)

end Sys2Proof.Machine
end

