-- ==== Sys2Proof/Machine/Signs.lean ====
section
/-! DEFINITION. Machine/Signs.lean: the host's requests on the pages of the signs (section 10.2). -/

namespace Sys2Proof.Machine

/-- A sign that is configured in the committed configuration. -/
def State.signNamed (s : State) (sign : Nat) : Option SignId :=
  match objectOf 4 sign with
  | none => none
  | some n => if (s.cfg.signs.get n).station.isSome then some n else none

/-! ### SIGN_WINDOW (R180) -/

/-- The window of the bounds of a SIGN_WINDOW. -/
def windowOf (page : WritePage) (width height c0 c1 r0 r1 : Nat) : Window :=
  let a := min (min c0 c1) (width - 1)
  let b := min (max c0 c1) (width - 1)
  let c := min (min r0 r1) (height - 1)
  let d := min (max r0 r1) (height - 1)
  ⟨page, a, b, c, d, a, c⟩

/-- How many bounds of a SIGN_WINDOW were brought within the page. -/
def windowChanges (w : Window) (c0 c1 r0 r1 : Nat) : Nat :=
  changedCount [(min c0 c1, w.c0), (max c0 c1, w.c1), (min r0 r1, w.r0), (max r0 r1, w.r1)]

/-- The bounds of a window as bytes. -/
def bytesOfBounds (w : Window) : List Byte := byte1 w.c0 ++ byte1 w.c1 ++ byte1 w.r0 ++ byte1 w.r1

/-- SIGN_WINDOW (R180). -/
def requestWindow (sign : Nat) (page : Option WritePage) (c0 c1 r0 r1 : Nat) (s : State) :
    (Result × List Byte) × State :=
  match s.signNamed sign, page with
  | some n, some p =>
    let c := s.cfg.signs.get n
    let w := windowOf p c.width c.height c0 c1 r0 r1
    let count := windowChanges w c0 c1 r0 r1
    let s1 := s.putSign n { s.signs.get n with window := w }
    if count = 0 then ((.ok, bytesOfBounds w), s1) else ((.clamped, byte1 count ++ bytesOfBounds w), s1)
  | _, _ => ((.badIndex, []), s)

/-! ### SIGN_DATA (R181) -/

/-- The pointer after a cell. -/
def Window.advance (w : Window) : Window :=
  if w.col < w.c1 then { w with col := w.col + 1 }
  else if w.row < w.r1 then { w with col := w.c0, row := w.row + 1 }
  else { w with col := w.c0, row := w.r0 }

/-- The cell values that the data bytes carry. -/
def cellsOfData (depth : Depth) (data : List Byte) : List Nat :=
  match depth with
  | .d9 => pairs data
  | _ => data.map BitVec.toNat
where
  /-- Two bytes a cell, the high part first; a trailing odd byte is ignored. -/
  pairs : List Byte → List Nat
    | h :: l :: rest => (256 * h.toNat + l.toNat) :: pairs rest
    | _ => []

/-- One cell written at the pointer into the window's page. -/
def Sign.write (r : Sign) (width value : Nat) : Sign :=
  let at' := r.window.row * width + r.window.col
  match r.window.page with
  | .draft => { r with draft := r.draft.set at' value, window := r.window.advance }
  | .preempt => { r with preempt := r.preempt.set at' value, window := r.window.advance }

/-- The cells written one by one. -/
def Sign.writeAll (width limit : Nat) : List Nat → Sign → Sign
  | [], r => r
  | v :: rest, r => Sign.writeAll width limit rest (r.write width (min limit v))

/-- How many of the cells are above the limit. -/
def clampedCells (limit : Nat) (cells : List Nat) : Nat := (cells.filter fun v => limit < v).length

/-- SIGN_DATA (R181). -/
def requestData (sign : Nat) (data : List Byte) (s : State) : (Result × List Byte) × State :=
  if data.length = 0 || 200 < data.length then ((.badLength, []), s)
  else
    match s.signNamed sign with
    | none => ((.badIndex, []), s)
    | some n =>
      let c := s.cfg.signs.get n
      let cells := cellsOfData c.depth data
      let clamped := clampedCells (cellLimitOf c.depth) cells
      ((if clamped = 0 then .ok else .clamped, byte1 cells.length ++ byte1 clamped),
        s.putSign n ((s.signs.get n).writeAll c.width (cellLimitOf c.depth) cells))

/-! ### SIGN_SHOW and SIGN_BLANK (R182) -/

/-- The ACTIVE page becomes the given cells; shown, that is new content. -/
def publish (n : SignId) (cells : List Nat) (s : State) : State :=
  let r := s.signs.get n
  let s1 := s.putSign n { r with active := cells }
  if r.showing = .active then newContent n s1 else s1

/-- SIGN_SHOW (R182). -/
def requestShow (sign : Nat) (s : State) : Result × State :=
  match s.signNamed sign with
  | none => (.badIndex, s)
  | some n => (.ok, publish n (s.signs.get n).draft s)

/-- SIGN_BLANK (R182). -/
def requestBlank (sign : Nat) (s : State) : Result × State :=
  match s.signNamed sign with
  | none => (.badIndex, s)
  | some n => (.ok, publish n ((s.signs.get n).active.map fun _ => 0) s)

end Sys2Proof.Machine
end

