-- ==== Sys2Proof/Machine/Notices.lean ====
section
/-! DEFINITION. Machine/Notices.lean: notices and replies as the bytes of host frames (R195, R202, Tables 12-1 and
12-7). -/

namespace Sys2Proof.Machine

/-! ### Items of notices -/

/-- A fault record as items (Table 7-4). -/
def bytesOfRecord (r : FaultRecord) : List Byte :=
  byte1 (codeOfFaultKind r.kind) ++ byte1 (codeOfFaultPolicy r.policy) ++ byte1 r.object.a ++ byte1 r.object.b ++
    byte1 (codeOfFaultState r.state) ++ byte4 r.firstSeen ++ byte4 r.lastSeen ++ byte1 r.occurrences

/-- A set of sources as the demand state it gives: NONE or LATCHED (Table 3-1). -/
def codeOfDemand (latched : Bool) : Nat := if latched then 2 else 1

/-- An index that may be absent and that counts from 0, as a chunk index (R202). -/
def maybeNumber : Option Nat → List Byte
  | some n => byte1 n
  | none => byte1 0

/-- The items of a notice, in the order its rule lists them (R47, R63, R64, R86, R105, R139, R159, R168, R171, R188,
R192, R193, R200). The three counts of PREEMPT, which R86 gives no order, stand as OCCUPIED, PRESSED, FAILED: DESIGN
CHOICE (log entry 11). -/
def NoticeBody.items : NoticeBody → List Byte
  | .mode after before cause committed =>
    byte1 (codeOfMode after) ++ byte1 (codeOfMode before) ++ byte1 (codeOfModeCause cause) ++ flag1 committed
  | .demand g x => byte1 (numberOf g) ++ byte1 (bitsOfSources x)
  | .entryDone g o p x =>
    byte1 (numberOf g) ++ byte1 (codeOfOrigin o) ++ byte1 (codeOfPolicy p) ++ byte1 (codeOfOutcome x)
  | .greenEnd g reason p duration started latched =>
    byte1 (numberOf g) ++ byte1 (codeOfReason reason) ++ byte1 (codeOr codeOfPolicy p) ++ byte2 duration ++
      (match started with
        | none => []
        | some b => flag1 b) ++ byte1 (codeOfDemand latched)
  | .preempt p state cause overridden host a b c truncated =>
    byte1 (numberOf p) ++ byte1 (codeOfChanState state) ++ byte1 (codeOfPreemptCause cause) ++ flag1 overridden ++
      flag1 host ++ byte1 a ++ byte1 b ++ byte1 c ++ byte1 truncated
  | .fault r => bytesOfRecord r
  | .station st kind state score cause =>
    byte1 (numberOf st) ++ byte1 (codeOfStationKind kind) ++ maybe1 (state.map codeOfStationState) ++ byte1 score ++
      byte1 (codeOfStationCause cause)
  | .channel c state cause named =>
    bytesOfChannel c ++ byte1 (codeOfDetState state) ++ byte1 (codeOfChannelCause cause) ++ bytesOfNamed named
  | .sign n st transfer cause showing page chunk count restart =>
    byte1 (numberOf n) ++ maybeIndex st ++ byte1 (codeOfTransfer transfer) ++ byte1 (codeOfSignCause cause) ++
      byte1 (codeOfShowing showing) ++ maybe1 (page.map codeOfShowing) ++ maybeNumber chunk ++ byte1 count ++
      flag1 restart
  | .forward c kind state merged =>
    bytesOfChannel c ++ byte1 (codeOfEventKind kind) ++ byte1 (codeOfDetState state) ++ byte1 merged
  | .linkError n => byte1 n
  | .overrun n => byte1 n
  | .resetDone m committed discarded uptime =>
    byte1 (codeOfMode m) ++ flag1 committed ++ flag1 discarded ++ byte4 uptime

/-! ### Frames -/

/-- Table 12-1: a frame that the part sends. A LENGTH above 250 has no meaning in the manual (log entry 8). -/
def hostFrame (kind : Byte) (body : List Byte) : List Byte :=
  let n := 1 + body.length
  let covered := (if n ≤ 250 then BitVec.ofNat 8 n else Config.longLength n) :: kind :: body
  byte1 0xC3 ++ covered ++ word2 (checkOf covered)

/-- R195: the KIND of a reply. -/
def replyKind (kind : Byte) : Byte := kind ||| 0x80#8

/-- R195: a reply as a frame. -/
def Reply.frame (r : Reply) : List Byte :=
  hostFrame (replyKind r.kind) (byte1 (codeOfResult r.result) ++ r.items)

/-- Table 12-7: a notice as a frame. -/
def Notice.frame (n : Notice) : List Byte :=
  let k := n.body.key
  hostFrame (BitVec.ofNat 8 k.kind) (byte1 k.a ++ byte1 k.b ++ byte1 k.c ++ byte4 n.stamp ++ n.body.items)

/-- R198: the OVERFLOW marker as a frame. -/
def overflowFrame (stamp : Count32) (count : Nat) : List Byte :=
  hostFrame 0x4D#8 (byte1 0 ++ byte1 0 ++ byte1 0 ++ byte4 stamp ++ byte1 count)

/-- The bytes of the frame that is leaving the host line. -/
def Sending.frame : Sending → List Byte
  | .reply r => r.frame
  | .notice n => n.frame
  | .overflow stamp count => overflowFrame stamp count

end Sys2Proof.Machine
end

