-- ==== Sys2Proof/Machine/Status.lean ====
section
/-! DEFINITION. Machine/Status.lean: the status requests: the items of each reply, in the order its rule lists them
(R22, R40, R65, R87, R105, R117, R123, R140, R158, R169, R174, R189, R199), encoded by R202 (log entry 11). -/

namespace Sys2Proof.Machine

/-- A status request on an object: BAD_INDEX when no object is named (each rule). -/
def reporting {α : Type} (object : Option α) (items : α → List Byte) : Result × List Byte :=
  match object with
  | none => (.badIndex, [])
  | some a => (.ok, items a)

/-! ### Signal core -/

/-- The running timer of a group's state (R22). -/
def Group.runningTimer (r : Group) : Nat :=
  match r.state with
  | .prep => r.prepTimer
  | .green => r.greenElapsed
  | .clear => r.clearTimer
  | _ => 0

/-- GROUP_STATUS (R22). -/
def groupItems (s : State) (g : GroupId) : List Byte :=
  let c := s.groupCfg g
  let r := s.groups.get g
  byte1 (codeOfKind c.kind) ++ byte2 c.minGreen ++ byte2 c.maxGreen ++ byte2 c.extUnit ++ byte2 c.clearTime ++
    byte2 c.prepTime ++ byte2 c.minRed ++ byte1 (codeOfGroupState r.state) ++ byte2 r.runningTimer ++
    byte2 r.redAge ++ byte2 r.greenEndAge ++ maybe1 (r.policy.map codeOfPolicy) ++ maybe2 r.maxOverride ++
    flag1 r.leavePending ++ maybe1 (r.lastReason.map codeOfReason) ++ flag1 r.inhibit ++ flag1 r.recalls

/-- An entry of the queue as items (Table 2-3). -/
def entryItems (e : Entry) : List Byte :=
  byte1 (numberOf e.group) ++ byte1 (codeOfOrigin e.origin) ++ byte1 (codeOfPolicy e.policy) ++
    maybe2 e.maxOverride ++ byte4 e.queuedAt

/-- QUEUE_STATUS (R40). The rule lists the number of entries and then the entries, and R202 gives a list a count byte.
DESIGN CHOICE (log entry 11): the count stands once, the number of entries being the list's own count. -/
def queueItems (s : State) : List Byte :=
  byte4 s.clock.tenths ++ byte1 s.queue.length ++ s.queue.flatMap entryItems

/-- The timers of a green (R65): HOLDING, RUNNING and EXPIRED are 1, 2 and 3; NOT_STARTED and running are 1 and 2. -/
def timerItems : Option GreenTimers → List Byte
  | none => byte1 0xFF
  | some t =>
    (match t.gap with
      | .holding => byte1 1
      | .running left => byte1 2 ++ byte2 left
      | .expired => byte1 3) ++
    (match t.elapsed with
      | none => byte1 1
      | some e => byte1 2 ++ byte2 e) ++ byte2 t.limit

/-- How many members of a hold set have the cause. -/
def countHold (cause : HoldCause) (l : List (ChannelId × HoldCause)) : Nat :=
  (l.filter fun m => m.2 == cause).length

/-- DEMAND_STATUS (R65). -/
def demandItems (s : State) (g : GroupId) : List Byte :=
  let d := s.demand.get g
  byte1 (codeOfDemand d.sources.latched) ++ byte1 (bitsOfSources d.sources) ++ byte1 d.failedRecall ++
    byte1 (countHold .occupied d.hold) ++ byte1 (countHold .failed d.hold) ++
    byte1 (codeOfGroupState (s.groups.get g).state) ++ flag1 d.timers.isSome ++ timerItems d.timers

/-- A member of a detector source as items. -/
def memberItems (m : ChannelId × SourceCause) : List Byte := bytesOfChannel m.1 ++ byte1 (codeOfSourceCause m.2)

/-- PREEMPT_STATUS (R87). The rule gives the fields of the committed configuration no order. DEDUCED (log entry 11): that
of Table 4-1. The phase timer of a DWELL held asserted has no bound in the manual, and beyond 6553.5 s stands as the
free value of log entry 9. -/
def preemptItems (s : State) (p : PreemptId) : List Byte :=
  let c := s.cfg.preempt.get p
  let r := s.preempt.get p
  byte2 c.delay ++ byte2 c.preemptMin ++ list1 (c.track.map numberOf) ++ byte2 c.trackTime ++
    list1 (c.dwell.map numberOf) ++ byte2 c.dwellMin ++ maybeIndex c.sign ++ flag1 c.failAssert ++
    byte1 (codeOfChanState r.state) ++
    (match r.phase with
      | none => []
      | some t => byte2 t) ++
    byte1 (codeOfHostSource r.host) ++ byte1 r.sources.length ++ r.sources.flatMap memberItems ++ flag1 r.overridden ++
    byte1 r.truncated

/-! ### Modes and lamps -/

/-- The time that a phase timer runs to (R105). -/
def State.phaseLimit (s : State) : Nat :=
  if s.mode.mode = .startFlash then s.cfg.global.startFlash else s.cfg.global.startRed

/-- The silence timer's state and time (R105): stopped, running and expired are 1, 2 and 3. -/
def silenceItems (s : State) : List Byte :=
  match s.mode.silence with
  | .stopped => byte1 1 ++ maybe2 none
  | .running e => byte1 2 ++ byte2 e
  | .expired => byte1 3 ++ byte2 (10 * s.cfg.global.silence)

/-- MODE_STATUS (R105). Before the first commit the rule does not say which global settings it carries. DESIGN CHOICE
(log entry 33): those of Table 5-4. -/
def modeItems (s : State) : List Byte :=
  let c := s.cfg.global
  byte1 (codeOfMode s.mode.mode) ++
    (match s.mode.enteredFrom with
      | none => []
      | some m => byte1 (codeOfMode m)) ++
    (match s.mode.stage with
      | none => []
      | some x => byte1 (codeOfStage x)) ++
    (match s.mode.phase with
      | none => []
      | some t => byte2 t ++ byte2 s.phaseLimit) ++
    silenceItems s ++ flag1 s.committed.isSome ++ byte2 c.startFlash ++ byte2 c.startRed ++ byte1 c.silence ++
    byte1 (codeOfFaultPolicy c.hostSilent) ++ byte1 (codeOfFaultPolicy c.redOut)

/-- The ramp as OUTPUT_STATUS carries it. -/
def rampItems : Option Ramp → List Byte
  | none => byte1 0xFF
  | some r => byte1 r.target ++ byte1 (codeOfInterval r.interval) ++ byte2 r.left

/-- OUTPUT_STATUS (R117). -/
def outputItems (s : State) (g : GroupId) (c : Colour) : List Byte :=
  let k := (s.cfg.outputs.get g).get c
  let o := s.output g c
  flag1 k.dimmable ++ byte2 k.iNom ++ byte1 (codeOfCommand o.commanded) ++
    (if o.commanded = .flashing then flag1 s.flash.lit else []) ++ byte1 o.duty ++ byte1 s.dimming.level ++
    rampItems s.dimming.ramp ++ byte1 (codeOfSense o.sensed) ++ maybe2 o.lastCurrent ++ byte1 o.lowCount ++
    byte1 o.highCount ++ byte1 (codeOfHealth o.health)

/-- AUDIO_STATUS (R123). -/
def audioItems (s : State) (a : AudioId) : List Byte :=
  let c := s.cfg.audio.get a
  let r := s.audio.get a
  maybeIndex c.group ++ byte1 c.tone ++ byte1 c.volume ++ byte1 (codeOfChirp c.chirp) ++
    byte1 (codeOfPattern r.pattern) ++ byte2 r.chirpLeft ++ byte1 r.volume

/-- FAULT_STATUS (R140). The count stands once, as in `queueItems`: DESIGN CHOICE (log entry 11). -/
def faultItems (s : State) : List Byte := byte1 s.faults.length ++ s.faults.flatMap bytesOfRecord

/-! ### Stations, channels and signs -/

/-- The kind of the transaction in flight that meets a test, with a flag whether there is one. -/
def flightItems (test : Transaction → Bool) (s : State) : List Byte :=
  match s.bus.transaction with
  | none => flag1 false ++ maybe1 none
  | some t => if test t then flag1 true ++ byte1 (codeOfJob t.job) else flag1 false ++ maybe1 none

/-- STATION_STATUS (R158). -/
def stationItems (s : State) (st : StationId) : List Byte :=
  let c := s.cfg.stations.get st
  let r := s.stations.get st
  byte1 (codeOfStationKind c.kind) ++ flag1 c.urgent ++ maybe1 (r.state.map codeOfStationState) ++ byte1 r.score ++
    byte1 r.retries ++ flag1 r.warned ++ flag1 r.due ++ maybe2 (s.nextDue st) ++ byte1 r.cycle ++
    byte2 s.cfg.pollPeriod ++ flightItems (fun t => t.station == st) s

/-- The time a channel has been OCCUPIED, when it is (R174). -/
def occupiedItems (s : State) (c : ChannelId) : List Byte :=
  match (s.channel c).occupiedSince with
  | none => []
  | some since => byte2 (s.clock.tenths - since).toNat

/-- CHANNEL_STATUS (R174). -/
def channelItems (s : State) (c : ChannelId) : List Byte :=
  match s.stuckLimit c with
  | none => byte1 0xFF
  | some limit =>
    let r := s.channel c
    byte1 limit ++ byte1 (codeOfDetState r.state) ++ maybe1 (r.cause.map codeOfFailCause) ++ occupiedItems s c ++
      bytesOfNamed r.named ++ byte2 r.pulses

/-- The channel that a station number and a channel number name. -/
def channelNamed (station channel : Nat) : Option ChannelId :=
  match objectOf 32 station, objectOf 8 channel with
  | some st, some c => some ⟨st, c⟩
  | _, _ => none

/-- CHANNEL_STATUS (R174): the reply, and the pulse count read to 0. -/
def readChannel (station channel : Nat) (s : State) : (Result × List Byte) × State :=
  match channelNamed station channel with
  | none => ((.badIndex, []), s)
  | some c =>
    ((.ok, channelItems s c), if s.fitted c then s.putChannel c { s.channel c with pulses := 0 } else s)

/-- The operand of an entry as numbers (Table 9-3). -/
def AcceptEntry.operand (e : AcceptEntry) : List Nat :=
  match e.channel with
  | some p => [numberOf p]
  | none => e.groups.map numberOf

/-- ACCEPT_STATUS (R169). -/
def acceptItems (s : State) (i : AcceptId) : List Byte :=
  let e := s.cfg.accept.get i
  if e.action = .empty then byte1 (codeOfAction .empty)
  else
    byte1 (codeOfAction e.action) ++ byte1 (numberOf e.first) ++ byte1 (numberOf e.last) ++
      list1 (e.channels.map numberOf) ++ list1 (e.kinds.map codeOfEventKind) ++ list1 e.operand

/-- SIGN_STATUS (R189). A sign that is not configured carries a marker and its committed geometry, and no rule says what
the marker is or whether the geometry takes in the depth, which Table 10-2 names beside it. DESIGN CHOICE (log entry
11): station 0, then width, height and depth. -/
def signItems (s : State) (n : SignId) : List Byte :=
  let c := s.cfg.signs.get n
  let r := s.signs.get n
  maybeIndex c.station ++ byte1 c.width ++ byte1 c.height ++ byte1 (codeOfDepth c.depth) ++
    (if c.station.isNone then []
    else
      byte1 c.chunkCount ++ byte1 (codeOfWritePage r.window.page) ++ byte1 r.window.c0 ++ byte1 r.window.c1 ++
        byte1 r.window.r0 ++ byte1 r.window.r1 ++ byte1 r.window.col ++ byte1 r.window.row ++
        byte1 (codeOfShowing r.showing) ++ byte1 (codeOfTransfer r.transfer) ++
        maybe1 (r.imagePage.map codeOfShowing) ++ maybeNumber r.chunk ++ flag1 r.restart ++
        flightItems (fun t => t.job.sign == some n) s)

/-! ### STATUS_SUMMARY (R199) -/

/-- Table 12-6, after the result. -/
def summaryItems (s : State) : List Byte :=
  byte1 (codeOfMode s.mode.mode) ++ flag1 s.committed.isSome ++ byte1 s.queue.length ++ maybeIndex s.activeChannel ++
    byte2 s.faultBits ++ flag1 s.link.overflowFlag ++ byte1 s.link.notices.length ++ flag1 s.link.marker ++
    byte1 s.link.linkErrors ++ byte1 s.link.overruns ++ byte4 s.clock.uptime ++ byte1 0

/-- R199: the overflow flag, reported set, is cleared. -/
def readSummary (s : State) : (Result × List Byte) × State :=
  ((.ok, summaryItems s), s.putLink { s.link with overflowFlag := false })

end Sys2Proof.Machine
end

