-- ==== Sys2Proof/Machine/Requests.lean ====
section
/-! DEFINITION. Machine/Requests.lean: the request of a frame passed to its owning block (R194, Table 11-3): its reply
and its whole effect at the moment it is taken. -/

namespace Sys2Proof.Machine

/-- A reply that carries its result code alone. -/
def bare (r : Result × State) : (Result × List Byte) × State := ((r.1, []), r.2)

/-- R90: every reply to a MODE_REQUEST but BAD_INDEX carries the mode as it stands after it. -/
def answerMode (m : Option Mode) (s : State) : (Result × List Byte) × State :=
  let r := requestMode m s
  ((r.1, if r.1 = .badIndex then [] else byte1 (codeOfMode r.2.mode.mode)), r.2)

/-- A status request: nothing changes. -/
def report {α : Type} (object : Option α) (items : State → α → List Byte) (s : State) :
    (Result × List Byte) × State :=
  (reporting object (items s), s)

/-- OUTPUT_STATUS (R117): the output that a group number and a colour name. -/
def outputNamed (group : Nat) (colour : Option Colour) : Option (GroupId × Colour) :=
  match objectOf 24 group, colour with
  | some g, some c => some (g, c)
  | _, _ => none

/-- R194, Table 11-3: a request, its reply and its effect. A command that no frame carries is no request. -/
def answer (i : Instr) (s : State) : (Result × List Byte) × State :=
  match i with
  | .enter g p o => requestEnter g p o s
  | .cancel g => bare (requestCancel g s)
  | .leave g => bare (requestLeave g s)
  | .groupFlags l => bare (requestFlags l s)
  | .preemptCall c v => requestCall c v s
  | .modeRequest m => answerMode m s
  | .cfgGroup g k a b c d e f => editing (editGroup g k a b c d e f) s
  | .cfgMatrixRow g l => editing (editRow g l) s
  | .cfgPreempt p a b c d t w n f => editing (editPreempt p a b c d t w n f) s
  | .cfgGlobal a b c h r => editing (editGlobal a b c h r) s
  | .cfgOutput g c d i => editing (editOutput g c d i) s
  | .cfgAudio a g t v c => editing (editAudio a g t v c) s
  | .cfgStation st k u => editing (editStation st k u) s
  | .cfgBus p => editing (editBus p) s
  | .cfgChannel st c o l => editing (editChannel st c o l) s
  | .cfgAccept i a x => editing (editAccept i a x) s
  | .cfgSign n st w h d => editing (editSign n st w h d) s
  | .cfgCommit => requestCommit s
  | .dim t i => requestDim t i s
  | .dimReset => ((.ok, byte1 1), resetDim s)
  | .signWindow n p a b c d => requestWindow n p a b c d s
  | .signData n l => requestData n l s
  | .signShow n => bare (requestShow n s)
  | .signBlank n => bare (requestBlank n s)
  | .signResume n => bare (requestResume n s)
  | .stationRestore st => bare (requestRestore st s)
  | .stationClear st => bare (requestClear st s)
  | .faultClear k a b => bare (clearFault k a b s)
  | .groupStatus g => report (objectOf 24 g) groupItems s
  | .queueStatus => ((.ok, queueItems s), s)
  | .demandStatus g => report (objectOf 24 g) demandItems s
  | .preemptStatus p => report (objectOf 4 p) preemptItems s
  | .modeStatus => ((.ok, modeItems s), s)
  | .outputStatus g c => report (outputNamed g c) (fun s o => outputItems s o.1 o.2) s
  | .audioStatus a => report (objectOf 8 a) audioItems s
  | .faultStatus => ((.ok, faultItems s), s)
  | .stationStatus st => report (objectOf 32 st) stationItems s
  | .channelStatus st c => readChannel st c s
  | .acceptStatus i => report (objectOf 48 i) acceptItems s
  | .signStatus n => report (objectOf 4 n) signItems s
  | .statusSummary => readSummary s
  | .reset => ((.ok, []), s)
  | .powerOnReset | .cabReset | .faultReset | .hostByteReceived _ _ | .hostInterbyteGap | .frameSent | .prepEnd _
  | .minimumGreenEvent _ | .clearEnd _ | .minRedReached _ | .intergreenBoundReached _ | .startFlashEnd
  | .startRedEnd | .closeAllRedEnd | .silenceTimeout | .gapExpiry _ | .maxLimitReached _ | .delayEnd _
  | .preemptMinReached _ | .trackEnd _ | .dwellMinReached _ | .flashHalfBoundary | .dimRampStep | .chirpEnd _
  | .sensedVoltageChange _ _ _ | .settleEnd _ _ | .mismatchTimeout _ _ | .conflictOverlapTimeout _ _
  | .currentCheck _ _ _ | .cycleBoundary | .halfBoundary | .stationFrameSent | .stationReply _ | .stationReplyGap
  | .replyWindowTimeout | .resetGuardEnd | .stuckLimitExpiry _ => ((.badKind, []), s)

end Sys2Proof.Machine
end

