-- ==== Sys2Proof/Machine/Link.lean ====
section
/-! DEFINITION. Machine/Link.lean: the Link Interface (chapter 11): frames received and placed, requests taken, and the
line toward the host. -/

namespace Sys2Proof.Machine

/-! ### Taking a request (R193 to R195) -/

/-- R194: the reply and the effect of a valid frame. -/
def answerFrame (f : HostFrame) (s : State) : (Result × List Byte) × State :=
  match f.judged with
  | .badKind => ((.badKind, []), s)
  | .badLength => ((.badLength, []), s)
  | .request i => answer i s

/-- R193, R194: a frame is taken as the request in process. -/
def takeRequest (f : HostFrame) (s : State) : State :=
  let r := answerFrame f s
  r.2.putLink { r.2.link with inProcess := some ⟨f, ⟨f.kind, r.1.1, r.1.2⟩, false⟩ }

/-- R193: a good frame discarded for want of room. -/
def overrun (s : State) : State :=
  let n := min 255 (s.link.overruns + 1)
  raise (.overrun n) (s.putLink { s.link with overruns := n })

/-- R193: the place of a valid frame. -/
def place (f : HostFrame) (s : State) : State :=
  match s.link.inProcess with
  | none => takeRequest f s
  | some _ =>
    match s.link.holding with
    | none => s.putLink { s.link with holding := some f }
    | some _ => overrun s

/-- R192, R104, R193: a valid frame. The rules do not order the end of HOST_SILENT and what else the frame brings about.
DESIGN CHOICE (log entry 27): that end comes first. -/
def receiveFrame (f : HostFrame) (s : State) : State := place f (validFrame s)

/-! ### The receiver (R191, R192, R203) -/

/-- R192: a frame discarded as damaged. -/
def damaged (s : State) : State :=
  let n := min 255 (s.link.linkErrors + 1)
  raise (.linkError n) (s.putLink { s.link with receiver := none, gapMs := 0, linkErrors := n })

/-- R192, R203: a complete frame, without its SYNC byte, is checked. -/
def checkFrame (covered check : List Byte) (s : State) : State :=
  let s1 := s.putLink { s.link with receiver := none, gapMs := 0 }
  match covered with
  | _ :: kind :: body =>
    if check = word2 (checkOf covered) then receiveFrame ⟨kind, judgeBody kind body⟩ s1 else damaged s
  | _ => damaged s

/-- R191: the frame in assembly with one byte more. -/
def assemble (l : List Byte) (s : State) : State :=
  match l with
  | _ :: length :: rest =>
    if length.toNat = 0 || 250 < length.toNat then damaged s
    else if rest.length = length.toNat + 2 then
      checkFrame (length :: rest.take length.toNat) (rest.drop length.toNat) s
    else s.putLink { s.link with receiver := some l, gapMs := 0 }
  | _ => s.putLink { s.link with receiver := some l, gapMs := 0 }

/-- R191: a byte from the host. "A framing error in HUNT is ignored" may speak of the byte or only of the error. DESIGN
CHOICE (log entry 41): of the byte, so a byte of the SYNC value without its stop bit begins no frame. -/
def receiveByte (b : Byte) (framingError : Bool) (s : State) : State :=
  match s.link.receiver with
  | none =>
    if framingError || b != 0xC3#8 then s else s.putLink { s.link with receiver := some [b], gapMs := 0 }
  | some l => if framingError then damaged s else assemble (l ++ [b]) s

/-- The gap inside a frame has become too long (R191). -/
def State.hostGapDue (s : State) : Bool := s.link.receiver.isSome && Config.hostGapMs < s.link.gapMs

/-! ### The line toward the host (R196 to R198) -/

/-- R192, R193: the counts that return to 0 when a notice's transmission begins. -/
def Link.begun (l : Link) (b : NoticeBody) : Link :=
  match b with
  | .linkError _ => { l with linkErrors := 0 }
  | .overrun _ => { l with overruns := 0 }
  | _ => l

/-- R196: what the line sends when no reply waits. -/
def Link.sendNotice (l : Link) (now : Count32) : Link :=
  match l.notices with
  | n :: rest => Link.begun { l with notices := rest, sending := some (.notice n) } n.body
  | [] =>
    if l.marker then
      { l with sending := some (.overflow now l.overflowCount), overflowCount := 0, marker := false }
    else l

/-- R196: a free line begins the first frame that exists. -/
def Link.pump (l : Link) (now : Count32) : Link :=
  match l.sending with
  | some _ => l
  | none =>
    match l.inProcess with
    | some p =>
      if p.begun then l.sendNotice now
      else { l with sending := some (.reply p.reply), inProcess := some { p with begun := true } }
    | none => l.sendNotice now

/-- R196: the line, at the end of a step. DESIGN CHOICE (log entry 5): of the notices that one moment raises on an idle line
the first begins to leave when all have been raised, so until then a later one of its key updates it (R197). -/
def pump (s : State) : State := s.putLink (s.link.pump s.clock.uptime)

/-- The end of every step: a free bus is granted (R147), and a free line begins a frame (R196). R147 grants an idle bus at the
moment a sign's transfer enters SENDING, and does not say whether that is before or after what else changes at that
moment. DESIGN CHOICE (log entry 42): after all of it. -/
def finish (s : State) : State := pump (arbitrate s)

/-- R193: the held frame moves up. -/
def moveUp (s : State) : State :=
  match s.link.holding with
  | none => s
  | some f => takeRequest f (s.putLink { s.link with holding := none })

/-- The reply leaving is that of a RESET request taken (R200). -/
def endsInReset (p : Option InProcess) : Bool :=
  match p with
  | none => false
  | some x => x.frame.judged == .request .reset

/-- R193, R196, R200: the frame leaving the line has left it in full. -/
def lineFree (s : State) : State :=
  let s1 := s.putLink { s.link with sending := none }
  match s.link.sending with
  | some (.reply _) =>
    if endsInReset s.link.inProcess then linkReset s1
    else moveUp (s1.putLink { s1.link with inProcess := none })
  | _ => s1

/-- The valid frame that carries a request. -/
def frameFor (i : Instr) : HostFrame := ⟨(requestKind i).getD 0, .request i⟩

/-- A request row of the table: the host's valid frame that carries it is complete (R192, R193; log entry 4). -/
def request (i : Instr) (s : State) : State := finish (receiveFrame (frameFor i) s)

end Sys2Proof.Machine
end

