-- ==== Sys2Proof/Machine/Time.lean ====
section
/-! DEFINITION. Machine/Time.lean: the passing of one millisecond, the moments of the outputs, the bus and the line,
and the event that is due first when no command waits (log entries 1, 3 and 6). -/

namespace Sys2Proof.Machine

/-! ### Moments of the outputs, the lamps and the bus -/

def State.settleDue (s : State) (g : GroupId) (c : Colour) : Bool := (s.output g c).settle == some 0

/-- A disagreement has lasted 0.3 s (R125). -/
def Output.disagreed (o : Output) : Bool :=
  match o.settle, o.mismatch with
  | none, some ms => !o.standing && Config.mismatchMs ≤ ms
  | _, _ => false

def State.mismatchDue (s : State) (g : GroupId) (c : Colour) : Bool := (s.output g c).disagreed

/-- An overlap has lasted 0.2 s (R127). -/
def Overlap.due (o : Overlap) : Bool := !o.standing && Config.overlapMs ≤ o.ms

def State.overlapDue (s : State) (low high : GroupId) : Bool :=
  s.monitor.overlaps.any fun o => o.low == low && o.high == high && o.due

def State.checkDue (s : State) (g : GroupId) (c : Colour) : Bool := (s.output g c).checkIn == some 0

def State.flashDue (s : State) : Bool := Config.flashHalfMs ≤ s.flash.ms

def State.rampDue (s : State) : Bool := (s.dimming.ramp.map (·.left)) == some 0

def State.chirpDue (s : State) (a : AudioId) : Bool :=
  (s.audio.get a).pattern == .chirp && (s.audio.get a).chirpLeft == 0

/-- R145: the cycle clock runs whenever a configuration is committed. -/
def State.cycleDue (s : State) : Bool := s.committed.isSome && s.cfg.pollPeriod ≤ s.bus.cycleMs

def State.halfDue (s : State) : Bool :=
  s.committed.isSome && !s.bus.halfDone && s.cfg.pollPeriod / 2 ≤ s.bus.cycleMs

def State.guardDue (s : State) : Bool := s.bus.guardLeft == some 0

/-- A reply window has been open for 8 ms (R148). -/
def Transaction.expired (t : Transaction) : Bool :=
  match t.window with
  | none => false
  | some ms => Config.windowMs ≤ ms

/-! ### One millisecond -/

/-- An output after one millisecond. -/
def Output.tick (o : Output) : Output :=
  { o with
    settle := o.settle.map (· - 1)
    mismatch := if o.settle.isSome then o.mismatch else o.mismatch.map fun ms => min Config.mismatchMs (ms + 1)
    checkIn := o.checkIn.map (· - 1) }

/-- The measurement of a clearance after one millisecond. -/
def Clearance.tick : Clearance → Clearance
  | .running ms => .running (ms + 1)
  | c => c

/-- The bus after one millisecond. -/
def Bus.tick (b : Bus) (running : Bool) : Bus :=
  { b with
    cycleMs := if running then b.cycleMs + 1 else b.cycleMs
    transaction := b.transaction.map fun t =>
      { t with window := t.window.map fun ms => min Config.windowMs (ms + 1) }
    guardLeft := b.guardLeft.map (· - 1) }

/-- Everything measured in milliseconds. -/
def tickMs (s : State) : State :=
  { s with
    outputs := s.outputs.map fun t => ⟨t.red.tick, t.amber.tick, t.green.tick⟩
    flash := { s.flash with ms := s.flash.ms + 1 }
    audio := s.audio.map fun r => { r with patternMs := (r.patternMs + 1) % 1000 }
    monitor := { s.monitor with
      overlaps := s.monitor.overlaps.map fun o => { o with ms := min Config.overlapMs (o.ms + 1) }
      clearance := s.monitor.clearance.map Clearance.tick }
    bus := s.bus.tick s.committed.isSome
    link := { s.link with gapMs := if s.link.receiver.isSome then min 6 (s.link.gapMs + 1) else s.link.gapMs } }

/-! ### One tenth -/

/-- An age after one tenth (R7, R8, R9). -/
def older (age : Nat) : Nat := min Config.ageLimit (age + 1)

/-- A group after one tenth (R7, R8, R9, R11, R15). -/
def Group.tenth (r : Group) (kind : Kind) : Group :=
  { r with
    prepTimer := if r.state = .prep then r.prepTimer + 1 else r.prepTimer
    greenElapsed := if r.state = .green then older r.greenElapsed else r.greenElapsed
    clearTimer := if r.state = .clear then r.clearTimer + 1 else r.clearTimer
    redAge := if r.state = .red then older r.redAge else r.redAge
    greenEndAge := if r.state = .green || kind = .unused then r.greenEndAge else older r.greenEndAge }

/-- The gap timer after one tenth (R59). -/
def GapTimer.tenth : GapTimer → GapTimer
  | .running left => .running (left - 1)
  | g => g

/-- A demand record after one tenth (R59, R62). -/
def Demand.tenth (d : Demand) : Demand :=
  { d with
    timers := d.timers.map fun t => { t with gap := t.gap.tenth, elapsed := t.elapsed.map (· + 1) } }

/-- A preemption channel after one tenth (R76, R79, R80). -/
def Preempt.tenth (r : Preempt) : Preempt := { r with phase := r.phase.map (· + 1) }

/-- The mode record after one tenth (R94, R97, R104). -/
def ModeRec.tenth (m : ModeRec) : ModeRec :=
  { m with
    phase := m.phase.map (· + 1)
    silence := match m.silence with
      | .running e => .running (e + 1)
      | x => x }

/-- Everything measured in tenths. -/
def tickTenth (s : State) : State :=
  { s with
    clock := { s.clock with tenths := s.clock.tenths + 1 }
    groups := s.groups.mapAt fun g r => r.tenth (s.kind g)
    demand := s.demand.map Demand.tenth
    preempt := s.preempt.map Preempt.tenth
    mode := s.mode.tenth
    audio := s.audio.map fun r => { r with chirpLeft := r.chirpLeft - 1 }
    dimming := { s.dimming with ramp := s.dimming.ramp.map fun r => { r with left := r.left - 1 } } }

/-- The uptime clock at the end of a second (R1). -/
def tickSecond (s : State) : State := { s with clock := { s.clock with uptime := s.clock.uptime + 1, ms := 0 } }

/-- One millisecond passes; every tenth and every second fall on the common grid of the uptime clock (log entry 6). -/
def tick (s : State) : State :=
  let s1 := tickMs s
  let ms := s.clock.ms + 1
  let s2 := { s1 with clock := { s1.clock with ms := ms } }
  let s3 := if ms % 100 = 0 then tickTenth s2 else s2
  if 1000 ≤ ms then tickSecond s3 else s3

/-! ### The event that is due first (log entry 3) -/

/-- The first member of a list that meets a test, as an event. -/
def firstOf {α : Type} (l : List α) (test : α → Bool) (event : α → Instr) : Option Instr :=
  (l.find? test).map event

/-- A single event, when it is due. -/
def ifDue (due : Bool) (event : Instr) : Option Instr := if due then some event else none

/-- Events of the line, the bus guard and the Output Monitor. R127 does not say which of several overlaps that last 0.2 s at
one instant, as after a link reset that times them all anew, raises its CONFLICT first. DESIGN CHOICE (log entry 3): they
are taken in the order in which they began, and those that began at one moment as `watchGreen` and `renewOverlaps` list
them (log entry 38). -/
def dueMonitor (s : State) : Option Instr :=
  (ifDue s.guardDue .resetGuardEnd).or <|
  (ifDue s.hostGapDue .hostInterbyteGap).or <|
  (firstOf allOutputs (fun o => s.settleDue o.1 o.2) fun o => .settleEnd o.1 o.2).or <|
  (firstOf allOutputs (fun o => s.mismatchDue o.1 o.2) fun o => .mismatchTimeout o.1 o.2).or <|
  firstOf s.monitor.overlaps Overlap.due fun o => .conflictOverlapTimeout o.low o.high

/-- Events of the groups. -/
def dueGroups (s : State) : Option Instr :=
  let all := List.finRange 24
  (firstOf all s.prepDue .prepEnd).or <|
  (firstOf all s.clearDue .clearEnd).or <|
  (firstOf all s.minGreenDue .minimumGreenEvent).or <|
  (firstOf all s.gapDue .gapExpiry).or <|
  (firstOf all s.maxDue .maxLimitReached).or <|
  (firstOf all s.truncateDue .preemptMinReached)

/-- Events of the modes and of the preemption channels, and the scan that an age completes: of several entries that it lets
be granted, the first that `findGrant` finds. -/
def dueModes (s : State) : Option Instr :=
  let all := List.finRange 4
  (ifDue s.startFlashDue .startFlashEnd).or <|
  (ifDue s.startRedDue .startRedEnd).or <|
  (ifDue s.closeDue .closeAllRedEnd).or <|
  (ifDue s.silenceDue .silenceTimeout).or <|
  (firstOf all s.delayDue .delayEnd).or <|
  (firstOf all s.trackDue .trackEnd).or <|
  (firstOf all s.dwellDue .dwellMinReached).or <|
  ((findGrant s [] s.queue).map fun e => .minRedReached e.group)

/-- Events of the lamps, the poll cycle and the detector channels. -/
def dueOthers (s : State) : Option Instr :=
  (ifDue s.flashDue .flashHalfBoundary).or <|
  (ifDue s.rampDue .dimRampStep).or <|
  (firstOf (List.finRange 8) s.chirpDue .chirpEnd).or <|
  (ifDue s.cycleDue .cycleBoundary).or <|
  (ifDue s.halfDue .halfBoundary).or <|
  firstOf allChannels s.stuck .stuckLimitExpiry

/-- The event that the part's own timers bring next at this moment, if any. -/
def nextDue (s : State) : Option Instr :=
  (dueMonitor s).or ((dueGroups s).or ((dueModes s).or (dueOthers s)))

end Sys2Proof.Machine
end

