-- ==== Sys2Proof/Machine/EventRows.lean ====
section
/-! DEFINITION. Machine/EventRows.lean: the meanings of the rows of the table that are inputs of the cabinet and of the
two serial lines, and moments that the part's own timers reach. A moment commanded before it is due changes nothing
(log entry 2). -/

namespace Sys2Proof.Machine

/-- A moment of one of the part's timers: its effect, where it is due. -/
def timed (due : Bool) (effect : State → State) (s : State) : Host.Outcome State Fault Refusal :=
  .next (if due then finish (effect s) else s)

/-- green_end_age counts for the group (R8): only then can it reach a bound. -/
def State.ageCounts (s : State) (g : GroupId) : Bool :=
  s.kind g != .unused && (s.groups.get g).state != .green

/-- R148: the reply window opens at the end of the request frame. -/
def openWindow (s : State) : State :=
  s.putBus { s.bus with
    transaction := s.bus.transaction.map fun t => { t with window := some (t.window.getD 0) } }

/-- An operation for the transaction whose reply window is open; bytes outside any window are discarded (R148). -/
def inWindow (f : Transaction → State → State) (s : State) : State :=
  match s.bus.transaction with
  | none => s
  | some t => if t.window.isSome then f t s else s

/-- The reply window in flight has been open for 8 ms (R148). -/
def State.windowDue (s : State) : Bool :=
  match s.bus.transaction with
  | none => false
  | some t => t.expired

/-- R161: the 8 ms after a link reset end. -/
def endGuard (s : State) : State := s.putBus { s.bus with guardLeft := none }

/-- POWER_ON_RESET (R106). -/
def execPowerOnReset (s : State) : Host.Outcome State Fault Refusal :=
  .next (powerOn s)

/-- CAB_RESET (R106). -/
def execCabReset (s : State) : Host.Outcome State Fault Refusal :=
  .next (finish (powerOn s))

/-- FAULT_RESET (R138). -/
def execFaultReset (s : State) : Host.Outcome State Fault Refusal :=
  .next (finish (resetFaults s))

/-- HOST_BYTE_RECEIVED (R191). -/
def execHostByteReceived (byte : Byte) (framingError : Bool) (s : State) : Host.Outcome State Fault Refusal :=
  .next (finish (receiveByte byte framingError s))

/-- HOST_INTERBYTE_GAP (R191). -/
def execHostInterbyteGap (s : State) : Host.Outcome State Fault Refusal :=
  timed s.hostGapDue damaged s

/-- FRAME_SENT (R196). -/
def execFrameSent (s : State) : Host.Outcome State Fault Refusal :=
  .next (finish (lineFree s))

/-- PREP_END (R11). -/
def execPrepEnd (group : GroupId) (s : State) : Host.Outcome State Fault Refusal :=
  timed (s.prepDue group) (endPrep group) s

/-- MINIMUM_GREEN_EVENT (R9). -/
def execMinimumGreenEvent (group : GroupId) (s : State) : Host.Outcome State Fault Refusal :=
  timed (s.minGreenDue group) (minimumGreen group) s

/-- CLEAR_END (R15). -/
def execClearEnd (group : GroupId) (s : State) : Host.Outcome State Fault Refusal :=
  timed (s.clearDue group) (endClear group) s

/-- MIN_RED_REACHED (R7). -/
def execMinRedReached (group : GroupId) (s : State) : Host.Outcome State Fault Refusal :=
  timed (s.minRedDue group) settle s

/-- INTERGREEN_BOUND_REACHED (R8). -/
def execIntergreenBoundReached (group : GroupId) (s : State) : Host.Outcome State Fault Refusal :=
  timed (s.ageCounts group) settle s

/-- START_FLASH_END (R94). -/
def execStartFlashEnd (s : State) : Host.Outcome State Fault Refusal :=
  timed s.startFlashDue beginStartRed s

/-- START_RED_END (R94). -/
def execStartRedEnd (s : State) : Host.Outcome State Fault Refusal :=
  timed s.startRedDue (enterRun .timer) s

/-- CLOSE_ALL_RED_END (R97). -/
def execCloseAllRedEnd (s : State) : Host.Outcome State Fault Refusal :=
  timed s.closeDue (changeMode .flash .timer) s

/-- SILENCE_TIMEOUT (R104). -/
def execSilenceTimeout (s : State) : Host.Outcome State Fault Refusal :=
  timed s.silenceDue expireSilence s

/-- GAP_EXPIRY (R59). -/
def execGapExpiry (group : GroupId) (s : State) : Host.Outcome State Fault Refusal :=
  timed (s.gapDue group) (expireGap group) s

/-- MAX_LIMIT_REACHED (R62). -/
def execMaxLimitReached (group : GroupId) (s : State) : Host.Outcome State Fault Refusal :=
  timed (s.maxDue group) (endByMax group) s

/-- DELAY_END (R76). -/
def execDelayEnd (channel : PreemptId) (s : State) : Host.Outcome State Fault Refusal :=
  timed (s.delayDue channel) (fun x => settle (enterClearing channel .delayEnd x)) s

/-- PREEMPT_MIN_REACHED (R78). -/
def execPreemptMinReached (group : GroupId) (s : State) : Host.Outcome State Fault Refusal :=
  timed (s.truncateDue group) (fun x => settle (truncateIfDue group x)) s

/-- TRACK_END (R80). -/
def execTrackEnd (channel : PreemptId) (s : State) : Host.Outcome State Fault Refusal :=
  timed (s.trackDue channel) (fun x => settle (enterDwell channel x)) s

/-- DWELL_MIN_REACHED (R80). -/
def execDwellMinReached (channel : PreemptId) (s : State) : Host.Outcome State Fault Refusal :=
  timed (s.dwellDue channel) (fun x => settle (exitDwell channel x)) s

/-- FLASH_HALF_BOUNDARY (R112). -/
def execFlashHalfBoundary (s : State) : Host.Outcome State Fault Refusal :=
  timed s.flashDue flipHalf s

/-- DIM_RAMP_STEP (R115). -/
def execDimRampStep (s : State) : Host.Outcome State Fault Refusal :=
  timed s.rampDue rampStep s

/-- CHIRP_END (R122). -/
def execChirpEnd (audio : AudioId) (s : State) : Host.Outcome State Fault Refusal :=
  timed (s.chirpDue audio) (endChirp audio) s

/-- SENSED_VOLTAGE_CHANGE (R125). -/
def execSensedVoltageChange (group : GroupId) (colour : Colour) (present : Bool) (s : State) :
    Host.Outcome State Fault Refusal :=
  .next (finish (senseOutput group colour present s))

/-- SETTLE_END (R125). -/
def execSettleEnd (group : GroupId) (colour : Colour) (s : State) : Host.Outcome State Fault Refusal :=
  timed (s.settleDue group colour) (endSettle group colour) s

/-- MISMATCH_TIMEOUT (R125). -/
def execMismatchTimeout (group : GroupId) (colour : Colour) (s : State) : Host.Outcome State Fault Refusal :=
  timed (s.mismatchDue group colour) (raiseMismatch group colour) s

/-- CONFLICT_OVERLAP_TIMEOUT (R127). -/
def execConflictOverlapTimeout (low high : GroupId) (s : State) : Host.Outcome State Fault Refusal :=
  timed (s.overlapDue low high) (raiseConflict low high) s

/-- CURRENT_CHECK (R129). -/
def execCurrentCheck (group : GroupId) (colour : Colour) (measured : Nat) (s : State) :
    Host.Outcome State Fault Refusal :=
  timed (s.checkDue group colour) (checkCurrent group colour measured) s

/-- CYCLE_BOUNDARY (R145). -/
def execCycleBoundary (s : State) : Host.Outcome State Fault Refusal :=
  timed s.cycleDue cycleStart s

/-- HALF_BOUNDARY (R145). -/
def execHalfBoundary (s : State) : Host.Outcome State Fault Refusal :=
  timed s.halfDue cycleHalf s

/-- STATION_FRAME_SENT (R148). -/
def execStationFrameSent (s : State) : Host.Outcome State Fault Refusal :=
  .next (finish (openWindow s))

/-- STATION_REPLY (R148). -/
def execStationReply (bytes : List Byte) (s : State) : Host.Outcome State Fault Refusal :=
  .next (finish (inWindow (fun t => takeReply t bytes) s))

/-- STATION_REPLY_GAP (R148). -/
def execStationReplyGap (s : State) : Host.Outcome State Fault Refusal :=
  .next (finish (inWindow (fun t => endTransaction t .error) s))

/-- REPLY_WINDOW_TIMEOUT (R148). -/
def execReplyWindowTimeout (s : State) : Host.Outcome State Fault Refusal :=
  timed s.windowDue (inWindow fun t => endTransaction t .error) s

/-- RESET_GUARD_END (R161). -/
def execResetGuardEnd (s : State) : Host.Outcome State Fault Refusal :=
  timed s.guardDue endGuard s

/-- STUCK_LIMIT_EXPIRY (R166). -/
def execStuckLimitExpiry (channel : ChannelId) (s : State) : Host.Outcome State Fault Refusal :=
  timed (s.stuck channel) (expireStuck channel) s

end Sys2Proof.Machine
end

