-- ==== Sys2Proof/Machine/RequestRows.lean ====
section
/-! DEFINITION. Machine/RequestRows.lean: the meanings of the rows of the table that are requests of the host. Each is
the completion of the valid frame that carries the request (R192, R193): the request is taken at once when none is in
process (R194), with its reply and its whole effect, and is held or discarded otherwise (log entry 4). -/

namespace Sys2Proof.Machine

/-- ENTER (R31). -/
def execEnter (group : Nat) (policy : Option Policy) (override : Option Nat) (s : State) :
    Host.Outcome State Fault Refusal :=
  .next (request (.enter group policy override) s)

/-- CANCEL (R34). -/
def execCancel (group : Nat) (s : State) : Host.Outcome State Fault Refusal :=
  .next (request (.cancel group) s)

/-- LEAVE (R18). -/
def execLeave (group : Nat) (s : State) : Host.Outcome State Fault Refusal :=
  .next (request (.leave group) s)

/-- GROUP_FLAGS (R56). -/
def execGroupFlags (items : List FlagItem) (s : State) : Host.Outcome State Fault Refusal :=
  .next (request (.groupFlags items) s)

/-- PREEMPT_CALL (R72). -/
def execPreemptCall (channel : Nat) (value : Option CallValue) (s : State) : Host.Outcome State Fault Refusal :=
  .next (request (.preemptCall channel value) s)

/-- MODE_REQUEST (R90). -/
def execModeRequest (mode : Option Mode) (s : State) : Host.Outcome State Fault Refusal :=
  .next (request (.modeRequest mode) s)

/-- CFG_GROUP (R4). -/
def execCfgGroup (group : Nat) (kind : Option Kind) (minGreen maxGreen extUnit clearTime prepTime minRed : Nat)
    (s : State) : Host.Outcome State Fault Refusal :=
  .next (request (.cfgGroup group kind minGreen maxGreen extUnit clearTime prepTime minRed) s)

/-- CFG_MATRIX_ROW (R26). -/
def execCfgMatrixRow (group : Nat) (pairs : List (Nat × Nat)) (s : State) : Host.Outcome State Fault Refusal :=
  .next (request (.cfgMatrixRow group pairs) s)

/-- CFG_PREEMPT (R68). -/
def execCfgPreempt (channel delay preemptMin trackTime dwellMin : Nat) (track dwell : List Nat) (sign : Nat)
    (failAssert : Option Bool) (s : State) : Host.Outcome State Fault Refusal :=
  .next (request (.cfgPreempt channel delay preemptMin trackTime dwellMin track dwell sign failAssert) s)

/-- CFG_GLOBAL (R101). -/
def execCfgGlobal (startFlash startRed silence : Nat) (hostSilent redOut : Option FaultPolicy) (s : State) :
    Host.Outcome State Fault Refusal :=
  .next (request (.cfgGlobal startFlash startRed silence hostSilent redOut) s)

/-- CFG_OUTPUT (R108). -/
def execCfgOutput (group : Nat) (colour : Option Colour) (dimmable : Option Bool) (iNom : Nat) (s : State) :
    Host.Outcome State Fault Refusal :=
  .next (request (.cfgOutput group colour dimmable iNom) s)

/-- CFG_AUDIO (R118). -/
def execCfgAudio (audio group tone volume : Nat) (chirp : Option ChirpLength) (s : State) :
    Host.Outcome State Fault Refusal :=
  .next (request (.cfgAudio audio group tone volume chirp) s)

/-- CFG_STATION (R143). -/
def execCfgStation (station : Nat) (kind : Option StationKind) (urgent : Option Bool) (s : State) :
    Host.Outcome State Fault Refusal :=
  .next (request (.cfgStation station kind urgent) s)

/-- CFG_BUS (R144). -/
def execCfgBus (period : Nat) (s : State) : Host.Outcome State Fault Refusal :=
  .next (request (.cfgBus period) s)

/-- CFG_CHANNEL (R163). -/
def execCfgChannel (station channel : Nat) (op : Option ChannelOp) (stuckLimit : Nat) (s : State) :
    Host.Outcome State Fault Refusal :=
  .next (request (.cfgChannel station channel op stuckLimit) s)

/-- CFG_ACCEPT (R169). -/
def execCfgAccept (index : Nat) (action : Option Action) (arg : Option AcceptArg) (s : State) :
    Host.Outcome State Fault Refusal :=
  .next (request (.cfgAccept index action arg) s)

/-- CFG_SIGN (R177). -/
def execCfgSign (sign station width height : Nat) (depth : Option Depth) (s : State) :
    Host.Outcome State Fault Refusal :=
  .next (request (.cfgSign sign station width height depth) s)

/-- CFG_COMMIT (R102). -/
def execCfgCommit (s : State) : Host.Outcome State Fault Refusal :=
  .next (request .cfgCommit s)

/-- DIM (R114). -/
def execDim (target : Nat) (interval : Option DimInterval) (s : State) : Host.Outcome State Fault Refusal :=
  .next (request (.dim target interval) s)

/-- DIM_RESET (R116). -/
def execDimReset (s : State) : Host.Outcome State Fault Refusal :=
  .next (request .dimReset s)

/-- SIGN_WINDOW (R180). -/
def execSignWindow (sign : Nat) (page : Option WritePage) (c0 c1 r0 r1 : Nat) (s : State) :
    Host.Outcome State Fault Refusal :=
  .next (request (.signWindow sign page c0 c1 r0 r1) s)

/-- SIGN_DATA (R181). -/
def execSignData (sign : Nat) (data : List Byte) (s : State) : Host.Outcome State Fault Refusal :=
  .next (request (.signData sign data) s)

/-- SIGN_SHOW (R182). -/
def execSignShow (sign : Nat) (s : State) : Host.Outcome State Fault Refusal :=
  .next (request (.signShow sign) s)

/-- SIGN_BLANK (R182). -/
def execSignBlank (sign : Nat) (s : State) : Host.Outcome State Fault Refusal :=
  .next (request (.signBlank sign) s)

/-- SIGN_RESUME (R187). -/
def execSignResume (sign : Nat) (s : State) : Host.Outcome State Fault Refusal :=
  .next (request (.signResume sign) s)

/-- STATION_RESTORE (R156). -/
def execStationRestore (station : Nat) (s : State) : Host.Outcome State Fault Refusal :=
  .next (request (.stationRestore station) s)

/-- STATION_CLEAR (R157). -/
def execStationClear (station : Nat) (s : State) : Host.Outcome State Fault Refusal :=
  .next (request (.stationClear station) s)

/-- FAULT_CLEAR (R137). -/
def execFaultClear (kind : Option FaultKind) (objectA objectB : Nat) (s : State) : Host.Outcome State Fault Refusal :=
  .next (request (.faultClear kind objectA objectB) s)

/-- GROUP_STATUS (R22). -/
def execGroupStatus (group : Nat) (s : State) : Host.Outcome State Fault Refusal :=
  .next (request (.groupStatus group) s)

/-- QUEUE_STATUS (R40). -/
def execQueueStatus (s : State) : Host.Outcome State Fault Refusal :=
  .next (request .queueStatus s)

/-- DEMAND_STATUS (R65). -/
def execDemandStatus (group : Nat) (s : State) : Host.Outcome State Fault Refusal :=
  .next (request (.demandStatus group) s)

/-- PREEMPT_STATUS (R87). -/
def execPreemptStatus (channel : Nat) (s : State) : Host.Outcome State Fault Refusal :=
  .next (request (.preemptStatus channel) s)

/-- MODE_STATUS (R105). -/
def execModeStatus (s : State) : Host.Outcome State Fault Refusal :=
  .next (request .modeStatus s)

/-- OUTPUT_STATUS (R117). -/
def execOutputStatus (group : Nat) (colour : Option Colour) (s : State) : Host.Outcome State Fault Refusal :=
  .next (request (.outputStatus group colour) s)

/-- AUDIO_STATUS (R123). -/
def execAudioStatus (audio : Nat) (s : State) : Host.Outcome State Fault Refusal :=
  .next (request (.audioStatus audio) s)

/-- FAULT_STATUS (R140). -/
def execFaultStatus (s : State) : Host.Outcome State Fault Refusal :=
  .next (request .faultStatus s)

/-- STATION_STATUS (R158). -/
def execStationStatus (station : Nat) (s : State) : Host.Outcome State Fault Refusal :=
  .next (request (.stationStatus station) s)

/-- CHANNEL_STATUS (R174). -/
def execChannelStatus (station channel : Nat) (s : State) : Host.Outcome State Fault Refusal :=
  .next (request (.channelStatus station channel) s)

/-- ACCEPT_STATUS (R169). -/
def execAcceptStatus (index : Nat) (s : State) : Host.Outcome State Fault Refusal :=
  .next (request (.acceptStatus index) s)

/-- SIGN_STATUS (R189). -/
def execSignStatus (sign : Nat) (s : State) : Host.Outcome State Fault Refusal :=
  .next (request (.signStatus sign) s)

/-- STATUS_SUMMARY (R199). -/
def execStatusSummary (s : State) : Host.Outcome State Fault Refusal :=
  .next (request .statusSummary s)

/-- RESET (R200). -/
def execReset (s : State) : Host.Outcome State Fault Refusal :=
  .next (request .reset s)

end Sys2Proof.Machine
end

