-- ==== Sys2Proof/Machine/Dispatch.lean ====
section
/-! DEFINITION. Machine/Dispatch.lean: one arm per command. -/

namespace Sys2Proof.Machine

def exec (i : Instr) (s : State) : Host.Outcome State Fault Refusal :=
  match i with
  | .enter group policy override => Sys2Proof.Machine.execEnter group policy override s
  | .cancel group => Sys2Proof.Machine.execCancel group s
  | .leave group => Sys2Proof.Machine.execLeave group s
  | .groupFlags items => Sys2Proof.Machine.execGroupFlags items s
  | .preemptCall channel value => Sys2Proof.Machine.execPreemptCall channel value s
  | .modeRequest mode => Sys2Proof.Machine.execModeRequest mode s
  | .cfgGroup group kind minGreen maxGreen extUnit clearTime prepTime minRed => Sys2Proof.Machine.execCfgGroup group kind minGreen maxGreen extUnit clearTime prepTime minRed s
  | .cfgMatrixRow group pairs => Sys2Proof.Machine.execCfgMatrixRow group pairs s
  | .cfgPreempt channel delay preemptMin trackTime dwellMin track dwell sign failAssert => Sys2Proof.Machine.execCfgPreempt channel delay preemptMin trackTime dwellMin track dwell sign failAssert s
  | .cfgGlobal startFlash startRed silence hostSilent redOut => Sys2Proof.Machine.execCfgGlobal startFlash startRed silence hostSilent redOut s
  | .cfgOutput group colour dimmable iNom => Sys2Proof.Machine.execCfgOutput group colour dimmable iNom s
  | .cfgAudio audio group tone volume chirp => Sys2Proof.Machine.execCfgAudio audio group tone volume chirp s
  | .cfgStation station kind urgent => Sys2Proof.Machine.execCfgStation station kind urgent s
  | .cfgBus period => Sys2Proof.Machine.execCfgBus period s
  | .cfgChannel station channel op stuckLimit => Sys2Proof.Machine.execCfgChannel station channel op stuckLimit s
  | .cfgAccept index action arg => Sys2Proof.Machine.execCfgAccept index action arg s
  | .cfgSign sign station width height depth => Sys2Proof.Machine.execCfgSign sign station width height depth s
  | .cfgCommit => Sys2Proof.Machine.execCfgCommit s
  | .dim target interval => Sys2Proof.Machine.execDim target interval s
  | .dimReset => Sys2Proof.Machine.execDimReset s
  | .signWindow sign page c0 c1 r0 r1 => Sys2Proof.Machine.execSignWindow sign page c0 c1 r0 r1 s
  | .signData sign data => Sys2Proof.Machine.execSignData sign data s
  | .signShow sign => Sys2Proof.Machine.execSignShow sign s
  | .signBlank sign => Sys2Proof.Machine.execSignBlank sign s
  | .signResume sign => Sys2Proof.Machine.execSignResume sign s
  | .stationRestore station => Sys2Proof.Machine.execStationRestore station s
  | .stationClear station => Sys2Proof.Machine.execStationClear station s
  | .faultClear kind objectA objectB => Sys2Proof.Machine.execFaultClear kind objectA objectB s
  | .groupStatus group => Sys2Proof.Machine.execGroupStatus group s
  | .queueStatus => Sys2Proof.Machine.execQueueStatus s
  | .demandStatus group => Sys2Proof.Machine.execDemandStatus group s
  | .preemptStatus channel => Sys2Proof.Machine.execPreemptStatus channel s
  | .modeStatus => Sys2Proof.Machine.execModeStatus s
  | .outputStatus group colour => Sys2Proof.Machine.execOutputStatus group colour s
  | .audioStatus audio => Sys2Proof.Machine.execAudioStatus audio s
  | .faultStatus => Sys2Proof.Machine.execFaultStatus s
  | .stationStatus station => Sys2Proof.Machine.execStationStatus station s
  | .channelStatus station channel => Sys2Proof.Machine.execChannelStatus station channel s
  | .acceptStatus index => Sys2Proof.Machine.execAcceptStatus index s
  | .signStatus sign => Sys2Proof.Machine.execSignStatus sign s
  | .statusSummary => Sys2Proof.Machine.execStatusSummary s
  | .reset => Sys2Proof.Machine.execReset s
  | .powerOnReset => Sys2Proof.Machine.execPowerOnReset s
  | .cabReset => Sys2Proof.Machine.execCabReset s
  | .faultReset => Sys2Proof.Machine.execFaultReset s
  | .hostByteReceived byte framingError => Sys2Proof.Machine.execHostByteReceived byte framingError s
  | .hostInterbyteGap => Sys2Proof.Machine.execHostInterbyteGap s
  | .frameSent => Sys2Proof.Machine.execFrameSent s
  | .prepEnd group => Sys2Proof.Machine.execPrepEnd group s
  | .minimumGreenEvent group => Sys2Proof.Machine.execMinimumGreenEvent group s
  | .clearEnd group => Sys2Proof.Machine.execClearEnd group s
  | .minRedReached group => Sys2Proof.Machine.execMinRedReached group s
  | .intergreenBoundReached group => Sys2Proof.Machine.execIntergreenBoundReached group s
  | .startFlashEnd => Sys2Proof.Machine.execStartFlashEnd s
  | .startRedEnd => Sys2Proof.Machine.execStartRedEnd s
  | .closeAllRedEnd => Sys2Proof.Machine.execCloseAllRedEnd s
  | .silenceTimeout => Sys2Proof.Machine.execSilenceTimeout s
  | .gapExpiry group => Sys2Proof.Machine.execGapExpiry group s
  | .maxLimitReached group => Sys2Proof.Machine.execMaxLimitReached group s
  | .delayEnd channel => Sys2Proof.Machine.execDelayEnd channel s
  | .preemptMinReached group => Sys2Proof.Machine.execPreemptMinReached group s
  | .trackEnd channel => Sys2Proof.Machine.execTrackEnd channel s
  | .dwellMinReached channel => Sys2Proof.Machine.execDwellMinReached channel s
  | .flashHalfBoundary => Sys2Proof.Machine.execFlashHalfBoundary s
  | .dimRampStep => Sys2Proof.Machine.execDimRampStep s
  | .chirpEnd audio => Sys2Proof.Machine.execChirpEnd audio s
  | .sensedVoltageChange group colour present => Sys2Proof.Machine.execSensedVoltageChange group colour present s
  | .settleEnd group colour => Sys2Proof.Machine.execSettleEnd group colour s
  | .mismatchTimeout group colour => Sys2Proof.Machine.execMismatchTimeout group colour s
  | .conflictOverlapTimeout low high => Sys2Proof.Machine.execConflictOverlapTimeout low high s
  | .currentCheck group colour measured => Sys2Proof.Machine.execCurrentCheck group colour measured s
  | .cycleBoundary => Sys2Proof.Machine.execCycleBoundary s
  | .halfBoundary => Sys2Proof.Machine.execHalfBoundary s
  | .stationFrameSent => Sys2Proof.Machine.execStationFrameSent s
  | .stationReply bytes => Sys2Proof.Machine.execStationReply bytes s
  | .stationReplyGap => Sys2Proof.Machine.execStationReplyGap s
  | .replyWindowTimeout => Sys2Proof.Machine.execReplyWindowTimeout s
  | .resetGuardEnd => Sys2Proof.Machine.execResetGuardEnd s
  | .stuckLimitExpiry channel => Sys2Proof.Machine.execStuckLimitExpiry channel s

end Sys2Proof.Machine
end

