-- ==== Sys2Proof/Machine/Step.lean ====
section
/-! DEFINITION. Machine/Step.lean: one step of the part: the command at the front of the queue, or, with none waiting,
the next event of the part's own timers or one millisecond (log entry 1). -/

namespace Sys2Proof.Machine

/-- The part with no command waiting. -/
def idle (s : State) : Host.Outcome State Fault Refusal :=
  match nextDue s with
  | some i => exec i s
  | none => .next (tick s)

/-- One step. -/
def step (s : State) : Host.Outcome State Fault Refusal :=
  match s.pending with
  | [] => idle s
  | i :: rest => exec i { s with pending := rest }

/-- The state with the command that a word spells in front of its queue. -/
def State.withFetchWord (s : State) (nbits w : Nat) : State :=
  match decodeTableWord nbits w with
  | some i => { s with pending := i :: s.pending }
  | none => s

end Sys2Proof.Machine
end

