-- ==== Sys2Proof/WellFormed.lean ====
section
/-! DEFINITION. WellFormed.lean: the commands that a host frame, the cabinet or a line of the part can carry: the
numbers of a request fit the bytes of its BODY (Tables 12-5 and 12-8), and its frame fits a LENGTH of 250. -/

namespace Sys2Proof

/-- The number fits one byte. -/
def fits1 (n : Nat) : Bool := n < 256

/-- The number fits two bytes. -/
def fits2 (n : Nat) : Bool := n < 65536

/-- Every number of a list fits one byte. -/
def allFit1 (l : List Nat) : Bool := l.all fits1

/-- An override that a 4-byte ENTER carries: 0xFFFF stands for absent (R204). -/
def overrideFits : Option Nat → Bool
  | none => true
  | some t => t < 0xFFFF

/-- CFG_ACCEPT carries more than its action exactly for an action other than EMPTY (R169). -/
def acceptFits (action : Option Action) : Option AcceptArg → Bool
  | none => action == some .empty
  | some a =>
    action != some .empty && fits1 a.first && fits1 a.last && allFit1 a.channels && allFit1 a.operand

/-- The operands of a command fit what carries it: a byte or two bytes of a BODY, a measurement of 0 to 4000 mA (R130),
a pair of groups with the lower first. -/
def Instr.operandsFit : Instr → Bool
  | .enter g _ o => fits1 g && overrideFits o
  | .cancel g | .leave g | .groupStatus g | .demandStatus g => fits1 g
  | .groupFlags l => l.all fun i => fits1 i.group
  | .preemptCall c _ => fits1 c
  | .modeRequest _ => true
  | .cfgGroup g _ a b c d e f => fits1 g && fits2 a && fits2 b && fits2 c && fits2 d && fits2 e && fits2 f
  | .cfgMatrixRow g l => fits1 g && l.all fun p => fits1 p.1 && fits2 p.2
  | .cfgPreempt p a b c d t w n _ =>
    fits1 p && fits2 a && fits2 b && fits2 c && fits2 d && allFit1 t && allFit1 w && fits1 n
  | .cfgGlobal a b c _ _ => fits2 a && fits2 b && fits1 c
  | .cfgOutput g _ _ i => fits1 g && fits2 i
  | .cfgAudio a g t v _ => fits1 a && fits1 g && fits1 t && fits1 v
  | .cfgStation st _ _ => fits1 st
  | .cfgBus p => fits2 p
  | .cfgChannel st c _ l => fits1 st && fits1 c && fits1 l
  | .cfgAccept i a x => fits1 i && acceptFits a x
  | .cfgSign n st w h _ => fits1 n && fits1 st && fits1 w && fits1 h
  | .dim t _ => fits1 t
  | .signWindow n _ a b c d => fits1 n && fits1 a && fits1 b && fits1 c && fits1 d
  | .signData n l => fits1 n && 1 ≤ l.length && l.length ≤ 200
  | .signShow n | .signBlank n | .signResume n | .signStatus n => fits1 n
  | .stationRestore st | .stationClear st | .stationStatus st => fits1 st
  | .faultClear _ a b => fits1 a && fits1 b
  | .preemptStatus p => fits1 p
  | .outputStatus g _ => fits1 g
  | .audioStatus a => fits1 a
  | .channelStatus st c => fits1 st && fits1 c
  | .acceptStatus i => fits1 i
  | .conflictOverlapTimeout low high => low.val < high.val
  | .currentCheck _ _ measured => measured ≤ 4000
  | .cfgCommit | .dimReset | .queueStatus | .modeStatus | .faultStatus | .statusSummary | .reset | .powerOnReset
  | .cabReset | .faultReset | .hostByteReceived _ _ | .hostInterbyteGap | .frameSent | .prepEnd _
  | .minimumGreenEvent _ | .clearEnd _ | .minRedReached _ | .intergreenBoundReached _ | .startFlashEnd
  | .startRedEnd | .closeAllRedEnd | .silenceTimeout | .gapExpiry _ | .maxLimitReached _ | .delayEnd _
  | .preemptMinReached _ | .trackEnd _ | .dwellMinReached _ | .flashHalfBoundary | .dimRampStep | .chirpEnd _
  | .sensedVoltageChange _ _ _ | .settleEnd _ _ | .mismatchTimeout _ _ | .cycleBoundary | .halfBoundary
  | .stationFrameSent | .stationReply _ | .stationReplyGap | .replyWindowTimeout | .resetGuardEnd
  | .stuckLimitExpiry _ => true

/-- A well-formed command: its operands fit, and its BODY fits a frame, whose LENGTH counts KIND and BODY and is at
most 250 (R202, Table 12-1). -/
def Instr.wellFormed (i : Instr) : Bool := i.operandsFit && (requestBody i).length ≤ 249

end Sys2Proof
end

