-- ==== Sys2Proof/Safety.lean ====
section
/-! DEFINITION. Safety.lean: the terms in which statements about the part are made: which parts of the state an
operation leaves alone, what the host is told, and the laws that every step keeps. -/

namespace Sys2Proof.Machine

/-! ### Frames -/

/-- The parts of the state. -/
inductive Field where
  | clock | mode | committed | working | groups | queue | demand | preempt | outputs | dimming | flash | audio
  | monitor | faults | stations | bus | channels | signs | link | choices | pending
  deriving DecidableEq, Repr

/-- Two states agree on a part. -/
def State.agreesOn (s t : State) : Field → Prop
  | .clock => t.clock = s.clock
  | .mode => t.mode = s.mode
  | .committed => t.committed = s.committed
  | .working => t.working = s.working
  | .groups => t.groups = s.groups
  | .queue => t.queue = s.queue
  | .demand => t.demand = s.demand
  | .preempt => t.preempt = s.preempt
  | .outputs => t.outputs = s.outputs
  | .dimming => t.dimming = s.dimming
  | .flash => t.flash = s.flash
  | .audio => t.audio = s.audio
  | .monitor => t.monitor = s.monitor
  | .faults => t.faults = s.faults
  | .stations => t.stations = s.stations
  | .bus => t.bus = s.bus
  | .channels => t.channels = s.channels
  | .signs => t.signs = s.signs
  | .link => t.link = s.link
  | .choices => t.choices = s.choices
  | .pending => t.pending = s.pending

/-- Every part of the state outside the list is the same in `t` as in `s`. -/
def ChangesOnly (l : List Field) (s t : State) : Prop := ∀ f, f ∉ l → s.agreesOn t f

/-! ### The host link -/

/-- No request is in process: a valid frame is taken at once (R193). -/
def State.free (s : State) : Prop := s.link.inProcess = none

/-- The bus is occupied, guarded, or has nothing to grant (R147). -/
def State.busSettled (s : State) : Bool :=
  s.bus.transaction.isSome || s.bus.guardLeft.isSome ||
    ((duePoll true s).isNone && (duePoll false s).isNone && (nextSign s).isNone)

/-- A frame is taken and answered: its reply begins to leave when the line is free, and waits otherwise (R196). -/
def Link.answering (l : Link) (f : HostFrame) (r : Reply) : Link :=
  match l.sending with
  | none => { l with inProcess := some ⟨f, r, true⟩, sending := some (.reply r) }
  | some _ => { l with inProcess := some ⟨f, r, false⟩ }

/-- The state with the request `i` in process and answered. -/
def State.replied (s : State) (i : Instr) (result : Result) (items : List Byte) : State :=
  s.putLink (s.link.answering (frameFor i) ⟨(requestKind i).getD 0, result, items⟩)

/-- The request in process is `i`, with this reply. -/
def State.repliedTo (s : State) (i : Instr) (result : Result) (items : List Byte) : Prop :=
  ∃ begun, s.link.inProcess = some ⟨frameFor i, ⟨(requestKind i).getD 0, result, items⟩, begun⟩

/-- The notices that wait in `t`, with the one that has begun to leave since `s`, whose line was idle. -/
def State.waiting (s t : State) : List Notice :=
  match s.link.sending, t.link.sending with
  | none, some (.notice n) => n :: t.link.notices
  | _, _ => t.link.notices

/-- Between `s` and `t` the host has been told, or will be: a notice with this body, stamped with the uptime, waits or has
begun to leave; or it found 64 notices of other keys waiting and was dropped, with the overflow flag set and the
OVERFLOW marker pending (R197, R198). -/
def Tells (s t : State) (b : NoticeBody) : Prop :=
  (⟨s.clock.uptime, b⟩ : Notice) ∈ s.waiting t ∨
    64 ≤ ((s.waiting t).filter fun n => n.body.key ≠ b.key).length ∧ t.link.overflowFlag = true ∧ t.link.marker = true

/-- The line toward the host and its notices: everything of the link but the receiver and the two places of requests
is free to change. -/
def Link.sameRequests (l m : Link) : Prop :=
  m.receiver = l.receiver ∧ m.gapMs = l.gapMs ∧ m.holding = l.holding ∧
    m.inProcess.map (fun p => (p.frame, p.reply)) = l.inProcess.map (fun p => (p.frame, p.reply))

/-! ### The signal core at rest -/

/-- No preemption channel is in a sequence: each is IDLE or PENDING. -/
def State.calm (s : State) : Prop := ∀ p, (s.preempt.get p).state = .idle ∨ (s.preempt.get p).state = .pending

/-- No RED_OUT condition stands. -/
def State.noRedOut (s : State) : Prop := ∀ c ∈ s.monitor.conditions, c.kind ≠ .redOut

/-- The parts that the signal core changes. -/
def coreFields : List Field :=
  [.groups, .queue, .demand, .preempt, .outputs, .audio, .monitor, .faults, .link]

/-- Between `s` and `t` a channel's entries for the groups of a list have joined the queue at its head, in the order of the
list, each of origin PREEMPT with the channel, policy HELD, no override, and queued at this moment (R37): a group in PREP or
GREEN gets none, and an older entry of a group that gets one is gone. `rest` is what stands in the queue before they join. Of all these the scan may have granted some at that moment, each told by ENTRY_DONE (R41,
R44): those are the entries whose group's record has changed. -/
def Inserts (s t : State) (p : PreemptId) (list : List GroupId) (rest : List Entry) : Prop :=
  let fresh := list.filter fun g => !(s.groups.get g).entering
  let joined := fresh.map fun g => (⟨g, .preempt p, .held, none, s.clock.tenths⟩ : Entry)
  let queue := joined ++ rest.filter fun e => !fresh.contains e.group
  t.queue = (queue.filter fun e => t.groups.get e.group == s.groups.get e.group) ∧
  ∀ e ∈ queue, t.groups.get e.group ≠ s.groups.get e.group →
    Tells s t (.entryDone e.group e.origin e.policy .granted)

/-! ### Laws that every step keeps -/

/-- The Link Interface (R193, R196, R197): the notice queue holds at most 64 notices of different keys, the counts
stop at 255, a frame is held only behind one in process, a reply has begun exactly while it is on the line, and the
line is idle only when nothing waits for it. -/
def LinkLaw (s : State) : Prop :=
  s.link.notices.length ≤ 64 ∧
  (s.link.notices.map fun n => n.body.key).Nodup ∧
  s.link.linkErrors ≤ 255 ∧ s.link.overruns ≤ 255 ∧ s.link.overflowCount ≤ 255 ∧
  (s.link.holding.isSome → s.link.inProcess.isSome) ∧
  (∀ p, s.link.inProcess = some p → (p.begun = true ↔ s.link.sending = some (.reply p.reply))) ∧
  (∀ r, s.link.sending = some (.reply r) → ∃ p, s.link.inProcess = some p ∧ p.reply = r) ∧
  (s.link.sending = none → s.link.inProcess = none ∧ s.link.notices = [] ∧ s.link.marker = false)

/-- The fault table (R99, R100, R134, R135): at most 24 records, no two of one key, at most 255 occurrences each, and
no second object byte above 24; a record is ACTIVE only while a condition of it stands, no two conditions have one kind
and object, and the mode is FAIL_FLASH exactly while a record of FLASH policy is ACTIVE or LATCHED. -/
def FaultLaw (s : State) : Prop :=
  s.faults.length ≤ 24 ∧
  s.faults.Pairwise (fun a b => a.sameKey b = false) ∧
  (∀ r ∈ s.faults, r.occurrences ≤ 255 ∧ r.object.b ≤ 24) ∧
  s.monitor.conditions.Pairwise (fun a b => a.kind = b.kind → a.object ≠ b.object) ∧
  (∀ r ∈ s.faults, r.state = .active → ∃ c ∈ s.monitor.conditions, r.covers c = true) ∧
  (s.mode.mode = .failFlash ↔ ∃ r ∈ s.faults, r.holdsFlash = true)

/-- RED_OUT between steps (R132): every RED_OUT condition that stands has policy REPORT; under FLASH the step that starts
one takes its group out of RED and so ends it. -/
def RedOutLaw (s : State) : Prop := ∀ c ∈ s.monitor.conditions, c.kind = .redOut → c.policy = .report

/-- The states that configured groups may have in a mode (R92 to R99, R16, R17). -/
def ModeRec.allows (m : ModeRec) (x : GroupState) : Bool :=
  match m.mode with
  | .dark => x == .off
  | .configure => if m.enteredFrom = some .flash then x == .flash else x == .off
  | .startFlash | .flash | .failFlash => x == .flash
  | .startRed => x == .red
  | .run => x == .red || x == .prep || x == .green || x == .clear
  | .runClosing =>
    if m.stage = some .allRed then x == .red else x == .red || x == .prep || x == .green || x == .clear

/-- The modes and the groups: UNUSED groups are OFF, configured groups have the states of their mode, CONFIGURE has
been entered from DARK or FLASH, and the close stage ALL_RED belongs to RUN_CLOSING. -/
def ModeLaw (s : State) : Prop :=
  (∀ g, s.kind g = .unused → (s.groups.get g).state = .off) ∧
  (∀ g, s.kind g ≠ .unused → s.mode.allows (s.groups.get g).state = true) ∧
  (s.mode.mode = .configure → s.mode.enteredFrom = some .dark ∨ s.mode.enteredFrom = some .flash) ∧
  (s.mode.stage = some .allRed → s.mode.mode = .runClosing)

/-- Conflicting groups (R25, R27, R42): the committed matrix is symmetric with an empty diagonal, and no two
conflicting groups are in PREP or GREEN together. -/
def ConflictLaw (s : State) : Prop :=
  (∀ i j, s.conflicts i j = true → s.conflicts j i = true) ∧
  (∀ i, s.conflicts i i = false) ∧
  (∀ i j, (s.groups.get i).entering = true → (s.groups.get j).entering = true → s.conflicts i j = false)

/-- The preemption channels (R39, R82, R85): at most one is in CLEARING, TRACK or DWELL; none above a channel in DELAY
is in DELAY, CLEARING, TRACK or DWELL; and outside RUN the queue is empty and no sequence runs. -/
def SequenceLaw (s : State) : Prop :=
  (∀ p q, (s.preempt.get p).working = true → (s.preempt.get q).working = true → p = q) ∧
  (∀ p q, p.val < q.val → (s.preempt.get q).state = .delay →
    (s.preempt.get p).working = false ∧ (s.preempt.get p).state ≠ .delay) ∧
  (s.mode.mode ≠ .run → s.queue = [] ∧ s.calm)

/-- The track lists of a configuration hold no group twice (R68). -/
def Configuration.tracksDistinct (w : Configuration) : Prop := ∀ p, (w.preempt.get p).track.Nodup

/-- The entry queue (R30, R32, R37): no group has two entries, and no entry is of a group in PREP or GREEN. -/
def QueueLaw (s : State) : Prop :=
  (s.queue.map Entry.group).Nodup ∧
  (∀ e ∈ s.queue, (s.groups.get e.group).entering = false) ∧
  s.cfg.tracksDistinct ∧ (∀ w, s.working = some w → w.tracksDistinct)

/-- The lamps (R107, R110): every output is commanded as Table 6-2 gives for the kind and state of its group. -/
def LampLaw (s : State) : Prop :=
  ∀ g c, (s.output g c).commanded = commandOf (s.kind g) (s.groups.get g).state c

/-- The greens (R12, R58, R63): a policy stands exactly in PREP and GREEN, and the timers of an ACTUATED green exactly
in a green of that policy. -/
def GreenLaw (s : State) : Prop :=
  ∀ g, ((s.groups.get g).policy.isSome = (s.groups.get g).entering) ∧
    ((s.demand.get g).timers.isSome = true ↔
      (s.groups.get g).state = .green ∧ (s.groups.get g).policy = some .actuated)

/-- The stations (R143, R146, R151, R154): the record of a station. -/
def Station.lawful (r : Station) (kind : StationKind) : Prop :=
  (r.state = none ↔ kind = .none) ∧ r.score ≤ 255 ∧ r.retries ≤ 2 ∧ r.cycle ≤ 3 ∧
  (r.due = true → r.inService = true) ∧
  (r.state = some .polling → r.score < 128) ∧ (r.state = some .degraded → 128 ≤ r.score) ∧
  (r.state = some .offline → r.score = 255) ∧
  (r.inService = true → (r.warned = true ↔ 96 ≤ r.score))

/-- The station bus (R145 to R155): every record is lawful, and a transaction that no commit has made stale is for a
station in service. -/
def StationLaw (s : State) : Prop :=
  (∀ st, (s.stations.get st).lawful (s.cfg.stations.get st).kind) ∧
  (∀ t, s.bus.transaction = some t → t.stale = false → (s.stations.get t.station).inService = true)

/-- The geometry of the signs of a configuration is within range (R177). -/
def Configuration.signsInRange (w : Configuration) : Prop :=
  ∀ n, 8 ≤ (w.signs.get n).width ∧ (w.signs.get n).width ≤ 128 ∧ 8 ≤ (w.signs.get n).height ∧
    (w.signs.get n).height ≤ 48

/-- A page of a sign: one value for each cell, none above the limit of its depth (R176, R181). -/
def SignCfg.isPage (c : SignCfg) (page : List Nat) : Prop :=
  page.length = c.width * c.height ∧ ∀ v ∈ page, v ≤ cellLimitOf c.depth

/-- The Sign Store (R176, R180, R181): the three pages of every sign fit its geometry and depth, and its pointer lies
in its window, which lies in the page. -/
def PageLaw (s : State) : Prop :=
  s.cfg.signsInRange ∧ (∀ w, s.working = some w → w.signsInRange) ∧
  ∀ n,
    (s.cfg.signs.get n).isPage (s.signs.get n).draft ∧
    (s.cfg.signs.get n).isPage (s.signs.get n).active ∧
    (s.cfg.signs.get n).isPage (s.signs.get n).preempt ∧
    (s.signs.get n).window.c0 ≤ (s.signs.get n).window.col ∧
    (s.signs.get n).window.col ≤ (s.signs.get n).window.c1 ∧
    (s.signs.get n).window.c1 < (s.cfg.signs.get n).width ∧
    (s.signs.get n).window.r0 ≤ (s.signs.get n).window.row ∧
    (s.signs.get n).window.row ≤ (s.signs.get n).window.r1 ∧
    (s.signs.get n).window.r1 < (s.cfg.signs.get n).height

/-- The detector channels (R163 to R168): a cause stands exactly in FAILED, a start of occupancy exactly in OCCUPIED, a
failure names something only in FAILED, the pulse count stops at 65535, and a channel that is not configured is
IDLE. -/
def ChannelLaw (s : State) : Prop :=
  ∀ c, ((s.channel c).cause.isSome = true ↔ (s.channel c).state = .failed) ∧
    ((s.channel c).occupiedSince.isSome = true ↔ (s.channel c).state = .occupied) ∧
    ((s.channel c).named.isSome = true → (s.channel c).state = .failed) ∧
    (s.channel c).pulses ≤ 65535 ∧
    (s.fitted c = false → (s.channel c).state = .idle)

end Sys2Proof.Machine
end

