-- ==== Sys2Proof/Certificates/Slice0/Obligations.lean ====
section
/-! DEFINITION. Certificates/Slice0/Obligations.lean: the statements about the part, for the provers: the machine, the host
link, resets, the configuration, reports, dimming and sound, signs, stations, faults, the signal core, the Output
Monitor, the station bus, the detector channels, and the laws that every step keeps. -/

open Sys2Proof Sys2Proof.Machine


/-! ### The machine -/

/-- One step takes the command at the front of the queue and runs it with the queue's rest. -/
def Obligations.StepRunsTheFrontCommand : Prop :=
  ∀ (i : Instr) (rest : List Instr) (s : State), s.pending = i :: rest → step s = exec i { s with pending := rest }

/-- With no command waiting, a step brings the event that the part's own timers have due, and one millisecond
passes when none is due. One millisecond that completes no tenth moves no group, queue, demand, channel, mode or
fault; one that completes a tenth (R7, R8, R9, R11, R15) adds a tenth to the tenths count and to the ages and
timers that run in each group's state, which stop at 250.0 s; and the uptime clock counts the seconds and wraps
(R1). That events and time pass at an idle step, and that every tenth falls on the grid of the uptime clock, are
the model's choices, log entries 1 and 6. -/
def Obligations.IdleStepsPassTime : Prop :=
  (∀ s : State, s.pending = [] →
     (∀ i, nextDue s = some i → step s = exec i s) ∧ (nextDue s = none → step s = .next (tick s))) ∧
  (∀ s : State, s.pending = [] → nextDue s = none → s.clock.ms < 1000 →
     ∃ t, step s = .next t ∧
       t.queue = s.queue ∧ t.faults = s.faults ∧ t.committed = s.committed ∧ t.working = s.working ∧
       t.mode.mode = s.mode.mode ∧ t.stations = s.stations ∧ t.channels = s.channels ∧ t.signs = s.signs ∧
       t.link.notices = s.link.notices ∧ t.link.inProcess = s.link.inProcess ∧
       t.clock.ms = (if s.clock.ms = 999 then 0 else s.clock.ms + 1) ∧
       t.clock.uptime = (if s.clock.ms = 999 then s.clock.uptime + 1 else s.clock.uptime) ∧
       (if s.clock.ms % 100 = 99 then
         t.clock.tenths = s.clock.tenths + 1 ∧
         ∀ g, (t.groups.get g).state = (s.groups.get g).state ∧
           (t.groups.get g).redAge =
             (if (s.groups.get g).state = .red then min 2500 ((s.groups.get g).redAge + 1)
              else (s.groups.get g).redAge) ∧
           (t.groups.get g).greenElapsed =
             (if (s.groups.get g).state = .green then min 2500 ((s.groups.get g).greenElapsed + 1)
              else (s.groups.get g).greenElapsed) ∧
           (t.groups.get g).greenEndAge =
             (if (s.groups.get g).state = .green ∨ s.kind g = .unused then (s.groups.get g).greenEndAge
              else min 2500 ((s.groups.get g).greenEndAge + 1)) ∧
           (t.groups.get g).prepTimer =
             (if (s.groups.get g).state = .prep then (s.groups.get g).prepTimer + 1 else (s.groups.get g).prepTimer) ∧
           (t.groups.get g).clearTimer =
             (if (s.groups.get g).state = .clear then (s.groups.get g).clearTimer + 1
              else (s.groups.get g).clearTimer)
       else t.clock.tenths = s.clock.tenths ∧ t.groups = s.groups ∧ t.demand = s.demand ∧ t.preempt = s.preempt))

/-- Every command completes in every state: no command of the part ends in a fault or a refusal; and none
changes the commands that wait. -/
def Obligations.EveryCommandCompletes : Prop :=
  ∀ (i : Instr) (s : State), ∃ t, exec i s = .next t ∧ t.pending = s.pending

/-! ### The host link -/

/-- A valid frame that finds a request in process is held, whole and unanswered, in the one place there is
(R193); where no HOST_SILENT condition stands it takes nothing with it but the restart of a silence timer that
runs or has expired (R104). One that finds a request in process and another held is discarded without a reply:
the overrun count rises by 1, stopping at 255, and an OVERRUN notice tells it (R193). FRAME_SENT at the end of a
reply, with no frame held: the request is no longer in process, and the line takes the oldest notice that waits,
else the OVERFLOW marker, else nothing (R193, R196, R198); the count that a LINK_ERROR or an OVERRUN notice
carries returns to 0 as it begins to leave (R192, R193), and nothing but the link changes. With a frame held,
that frame becomes the request in process at that moment, is judged and answered as it then stands, and its
reply begins to leave (R193, R194, R196). FRAME_SENT at the end of a notice or of the OVERFLOW marker: a reply
that waits begins to leave, and nothing else changes; with none the line goes on as after a reply (R196). -/
def Obligations.BusyLinkHoldsAndPassesOn : Prop :=
  let goesOn (s t : State) : Prop :=
    ChangesOnly [.link] s t ∧ t.link.inProcess = none ∧ t.link.holding = s.link.holding ∧
    t.link.receiver = s.link.receiver ∧ t.link.overflowFlag = s.link.overflowFlag ∧
    (∀ n rest, s.link.notices = n :: rest →
      t.link.sending = some (.notice n) ∧ t.link.notices = rest ∧ t.link.marker = s.link.marker ∧
      t.link.overflowCount = s.link.overflowCount ∧
      t.link.linkErrors = (match n.body with
        | .linkError _ => 0
        | _ => s.link.linkErrors) ∧
      t.link.overruns = (match n.body with
        | .overrun _ => 0
        | _ => s.link.overruns)) ∧
    (s.link.notices = [] → s.link.marker = true →
      t.link.sending = some (.overflow s.clock.uptime s.link.overflowCount) ∧ t.link.overflowCount = 0 ∧
      t.link.marker = false ∧ t.link.notices = []) ∧
    (s.link.notices = [] → s.link.marker = false →
      t.link.sending = none ∧ t.link.notices = [] ∧ t.link.marker = false)
  (∀ (i : Instr) (s : State) (p : InProcess), (requestKind i).isSome = true → s.busSettled = true →
     s.link.inProcess = some p → s.link.holding = none → s.link.sending.isSome = true →
     s.stands .hostSilent objectOfLink = false →
     exec i s = .next { s with
       mode := { s.mode with silence := if s.mode.silence = .stopped then .stopped else .running 0 }
       link := { s.link with holding := some (frameFor i) } }) ∧
  (∀ (i : Instr) (s : State) (p : InProcess) (f : HostFrame), (requestKind i).isSome = true → s.busSettled = true →
     s.link.inProcess = some p → s.link.holding = some f → s.link.sending.isSome = true →
     ∃ t, exec i s = .next t ∧ t.link.overruns = min 255 (s.link.overruns + 1) ∧
       Tells s t (.overrun t.link.overruns) ∧ t.link.inProcess = some p ∧ t.link.holding = some f ∧
       t.link.sending = s.link.sending ∧ t.link.receiver = s.link.receiver ∧
       ChangesOnly [.mode, .monitor, .faults, .link] s t ∧ t.mode.mode = s.mode.mode) ∧
  (∀ (s : State) (p : InProcess), s.busSettled = true →
     s.link.sending = some (.reply p.reply) → s.link.inProcess = some p → p.frame.judged ≠ .request .reset →
     s.link.holding = none →
     ∃ t, exec .frameSent s = .next t ∧ goesOn s t) ∧
  (∀ (s : State) (x : Sending), s.busSettled = true → s.link.sending = some x → (∀ r, x ≠ .reply r) →
     (∀ p, s.link.inProcess = some p → p.begun = false →
       exec .frameSent s = .next { s with
         link := { s.link with sending := some (.reply p.reply), inProcess := some { p with begun := true } } }) ∧
     (s.link.inProcess = none → ∃ t, exec .frameSent s = .next t ∧ goesOn s t)) ∧
  (∀ (s : State) (p : InProcess) (f : HostFrame),
     s.link.sending = some (.reply p.reply) → s.link.inProcess = some p → p.frame.judged ≠ .request .reset →
     s.link.holding = some f →
     let u := s.putLink { s.link with sending := none, inProcess := none, holding := none }
     let r : Reply := ⟨f.kind, (answerFrame f u).1.1, (answerFrame f u).1.2⟩
     ∃ t, exec .frameSent s = .next t ∧ t.link.holding = none ∧ t.link.inProcess = some ⟨f, r, true⟩ ∧
       t.link.sending = some (.reply r) ∧ t.groups = (answerFrame f u).2.groups ∧
       t.queue = (answerFrame f u).2.queue ∧ t.mode = (answerFrame f u).2.mode ∧
       t.working = (answerFrame f u).2.working ∧ t.signs = (answerFrame f u).2.signs)

/-- A notice that a block raises (R197, R198): where one of its kind and key waits (Table 11-4, with the codes
of Table 12-2 and the key bytes of Table 12-7), the contents and the stamp of that one are replaced and it keeps
its place; otherwise the notice joins the tail of fewer than 64, and with 64 waiting it is dropped: the overflow
count rises by 1, stopping at 255, the overflow flag is set and the marker is pending. No other part of the
state changes. The same at a command, HOST_INTERBYTE_GAP, with its LINK_ERROR (R192). -/
def Obligations.NoticesJoinUpdateOrAreDropped : Prop :=
  (∀ (b : NoticeBody) (s : State),
    let key (x : NoticeBody) : Nat × Nat × Nat × Nat := match x with
      | .mode _ _ _ _ => (0x40, 0, 0, 0)
      | .demand g _ => (0x41, g.val + 1, 0, 0)
      | .entryDone g _ _ _ => (0x42, g.val + 1, 0, 0)
      | .greenEnd g _ _ _ _ _ => (0x43, g.val + 1, 0, 0)
      | .preempt p _ _ _ _ _ _ _ _ => (0x44, p.val + 1, 0, 0)
      | .fault r =>
        if r.policy = .flash then (0x45, codeOfFaultKind r.kind, 0, 0xFF)
        else (0x45, codeOfFaultKind r.kind, r.object.a, r.object.b)
      | .station st _ _ _ _ => (0x46, st.val + 1, 0, 0)
      | .channel c _ _ _ => (0x47, c.station.val + 1, c.channel.val + 1, 0)
      | .sign n _ _ _ _ _ _ _ _ => (0x48, n.val + 1, 0, 0)
      | .forward c _ _ _ => (0x49, c.station.val + 1, c.channel.val + 1, 0)
      | .linkError _ => (0x4A, 0, 0, 0)
      | .overrun _ => (0x4B, 0, 0, 0)
      | .resetDone _ _ _ _ => (0x4C, 0, 0, 0)
    let n : Notice := ⟨s.clock.uptime, b⟩
    (∀ older w rest, s.link.notices = older ++ w :: rest → key w.body = key b →
      (∀ x ∈ older, key x.body ≠ key b) →
      raise b s = { s with link := { s.link with notices := older ++ n :: rest } }) ∧
    ((∀ x ∈ s.link.notices, key x.body ≠ key b) →
      (s.link.notices.length < 64 →
        raise b s = { s with link := { s.link with notices := s.link.notices ++ [n] } }) ∧
      (64 ≤ s.link.notices.length →
        raise b s = { s with link := { s.link with
          overflowCount := min 255 (s.link.overflowCount + 1), overflowFlag := true, marker := true } }))) ∧
  (∀ s : State, s.busSettled = true → s.link.sending.isSome = true → s.link.receiver.isSome = true →
    5 < s.link.gapMs →
    let isError (x : Notice) : Bool := match x.body with
      | .linkError _ => true
      | _ => false
    let errors := min 255 (s.link.linkErrors + 1)
    let n : Notice := ⟨s.clock.uptime, .linkError errors⟩
    let l : Link := { s.link with receiver := none, gapMs := 0, linkErrors := errors }
    (∀ older w rest, s.link.notices = older ++ w :: rest → isError w = true → (∀ x ∈ older, isError x = false) →
      exec .hostInterbyteGap s = .next { s with link := { l with notices := older ++ n :: rest } }) ∧
    ((∀ x ∈ s.link.notices, isError x = false) →
      (s.link.notices.length < 64 →
        exec .hostInterbyteGap s = .next { s with link := { l with notices := s.link.notices ++ [n] } }) ∧
      (64 ≤ s.link.notices.length →
        exec .hostInterbyteGap s = .next { s with link := { l with
          overflowCount := min 255 (s.link.overflowCount + 1), overflowFlag := true, marker := true } })))

/-- HOST_BYTE_RECEIVED (R191, R192). In HUNT a SYNC byte without framing error begins a frame, and any other
byte is discarded without a count; that a SYNC byte with a framing error is among these is the model's choice (log
entry 41). In a frame, a LENGTH of 1 to 250 joins it, and so does each byte after it
that does not complete it; each byte restarts the gap. A frame is damaged by a framing error in it, by a LENGTH
of 0 or above 250, by a CHECK that does not agree, and by a gap inside it (HOST_INTERBYTE_GAP): the receiver
returns to HUNT, the link error count rises by 1, stopping at 255, a LINK_ERROR notice tells it, no request is
made of it, and nothing but the link changes. -/
def Obligations.ReceiverAssemblesOrDiscardsFrames : Prop :=
  (∀ (b : Byte) (bad : Bool) (s : State), s.busSettled = true → s.link.sending.isSome = true →
     s.link.receiver = none →
     exec (.hostByteReceived b bad) s = .next
       (if bad = false ∧ b = 0xC3#8 then s.putLink { s.link with receiver := some [0xC3#8], gapMs := 0 } else s)) ∧
  (∀ (length : Byte) (s : State), s.busSettled = true → s.link.sending.isSome = true →
     s.link.receiver = some [0xC3#8] → 1 ≤ length.toNat → length.toNat ≤ 250 →
     exec (.hostByteReceived length false) s = .next
       (s.putLink { s.link with receiver := some [0xC3#8, length], gapMs := 0 })) ∧
  (∀ (s : State) (rest : List Byte) (length b : Byte), s.busSettled = true → s.link.sending.isSome = true →
     s.link.receiver = some (0xC3#8 :: length :: rest) → 1 ≤ length.toNat → length.toNat ≤ 250 →
     rest.length + 1 < length.toNat + 2 →
     exec (.hostByteReceived b false) s = .next
       (s.putLink { s.link with receiver := some (0xC3#8 :: length :: rest ++ [b]), gapMs := 0 })) ∧
  (∀ (s : State) (l : List Byte) (b : Byte), s.busSettled = true → s.link.sending.isSome = true →
     s.link.receiver = some l →
     let damage (i : Instr) : Prop := ∃ t, exec i s = .next t ∧ t.link.receiver = none ∧
       t.link.linkErrors = min 255 (s.link.linkErrors + 1) ∧
       Tells s t (.linkError t.link.linkErrors) ∧
       t.link.inProcess = s.link.inProcess ∧ t.link.holding = s.link.holding ∧
       t.link.sending = s.link.sending ∧ ChangesOnly [.link] s t
     damage (.hostByteReceived b true) ∧
     (5 < s.link.gapMs → damage .hostInterbyteGap) ∧
     (l = [0xC3#8] → (b = 0#8 ∨ 250 < b.toNat) → damage (.hostByteReceived b false)) ∧
     (∀ (length kind : Byte) (body : List Byte) (high : Byte), l = 0xC3#8 :: length :: kind :: body ++ [high] →
       length.toNat = body.length + 1 → length.toNat ≤ 250 → [high, b] ≠ word2 (checkOf (length :: kind :: body)) →
       damage (.hostByteReceived b false)))

/-- The last byte of a sound frame (R191, R192, R194, R202, R203, Table 12-1). For every well-formed request, in
every state whose receiver holds its frame but for the last byte of the CHECK, HOST_BYTE_RECEIVED does what the
row of the request does with the receiver in HUNT. A sound frame of a KIND that no request has is answered
BAD_KIND, and one whose BODY has not a length that Table 12-5 or 12-8 allows its KIND is answered BAD_LENGTH;
neither does anything more than a valid frame does (R194, R195). The allowed lengths are spelled out, by the
counts that the BODY itself carries. -/
def Obligations.LastFrameByteRunsTheRequest : Prop :=
  (∀ (i : Instr) (kind high low length : Byte) (s : State), i.wellFormed = true → requestKind i = some kind →
     length.toNat = 1 + (requestBody i).length →
     [high, low] = word2 (checkOf (length :: kind :: requestBody i)) →
     s.link.receiver = some (0xC3#8 :: length :: kind :: requestBody i ++ [high]) →
     exec (.hostByteReceived low false) s = exec i (s.putLink { s.link with receiver := none, gapMs := 0 })) ∧
  (∀ (kind high low length : Byte) (body : List Byte) (s : State), s.free → s.busSettled = true →
     length.toNat = 1 + body.length → body.length ≤ 249 →
     [high, low] = word2 (checkOf (length :: kind :: body)) →
     s.link.receiver = some (0xC3#8 :: length :: kind :: body ++ [high]) →
     let code := kind.toNat
     let count (i : Nat) : Nat := (body.getD i 0#8).toNat
     let known : Prop := 0x01 ≤ code ∧ code ≤ 0x1A ∨ 0x1F ≤ code ∧ code ≤ 0x2D ∨ code = 0x3F
     let lengths : List Nat := match code with
       | 0x08 | 0x1F | 0x22 | 0x25 | 0x28 | 0x2D | 0x3F => [0]
       | 0x02 | 0x03 | 0x06 | 0x0B | 0x0C | 0x0D | 0x0E | 0x0F | 0x21 | 0x23 | 0x24 | 0x27 | 0x29 | 0x2B | 0x2C => [1]
       | 0x05 | 0x07 | 0x17 | 0x26 | 0x2A => [2]
       | 0x16 | 0x20 => [3]
       | 0x18 => [4]
       | 0x14 | 0x15 | 0x1A => [5]
       | 0x09 => [6]
       | 0x13 => [7]
       | 0x10 => [14]
       | 0x01 => [2, 4]
       | 0x0A => List.range' 2 200
       | 0x04 => [1 + 4 * count 0]
       | 0x11 => [2 + 3 * count 1]
       | 0x12 => [13 + count 9 + count (10 + count 9)]
       | _ =>
         if count 1 = 1 then [2]
         else [7 + count 4 + count (5 + count 4) + count (6 + count 4 + count (5 + count 4))]
     let u := validFrame (s.putLink { s.link with receiver := none, gapMs := 0 })
     let refused (judged : Judged) (result : Result) : Prop := exec (.hostByteReceived low false) s =
       .next (u.putLink (u.link.answering ⟨kind, judged⟩ ⟨kind, result, []⟩))
     (¬known → refused .badKind .badKind) ∧ (known → body.length ∉ lengths → refused .badLength .badLength))

/-- The BODY of every well-formed request is read back as that request, operand for operand: decode of encode is
the request (Tables 12-2, 12-5 and 12-8, R202, R204). -/
def Obligations.RequestBodiesDecodeToTheirRequests : Prop :=
  ∀ (i : Instr) (kind : Byte), i.wellFormed = true → requestKind i = some kind →
    judgeBody kind (requestBody i) = .request i

/-! ### Resets -/

/-- POWER_ON_RESET and CAB_RESET leave every block with the values of its table for a power-on reset, from any
state: only what the voltage senses show is kept (Table 7-5), beside the commands that wait and the count of the
model's free choices, which are not the part's (log entry 29); that a frame leaving the host line is dropped is the
model's choice (log entry 40). A RESET request is answered OK and changes
nothing yet; at FRAME_SENT of its reply every block takes its link-reset values, given here field by field
(R200, R106, R201, Tables 1-8, 2-7, 3-5, 4-8, 5-7, 6-7, 7-5, 8-6, 9-5, 10-4 and 11-5). The fault table is kept,
but that the conditions the reset ends (R132, R141, R161, R175) end their records, told after RESET_DONE. -/
def Obligations.ResetsLeaveTheirTables : Prop :=
  (∀ (s : State) (i : Instr), i = .powerOnReset ∨ i = .cabReset →
     ∃ t, exec i s = .next t ∧
       t = { State.reset with outputs := t.outputs, choices := s.choices, pending := s.pending } ∧
       ∀ g c, t.output g c = { Output.fresh with sensed := (s.output g c).sensed }) ∧
  (∀ s : State, s.free → s.busSettled = true → exec .reset s = .next ((validFrame s).replied .reset .ok [])) ∧
  (∀ (s : State) (p : InProcess), s.link.sending = some (.reply p.reply) → s.link.inProcess = some p →
     p.frame.judged = .request .reset →
     let m : Mode := if s.faults.any FaultRecord.holdsFlash then .failFlash
       else if s.committed.isSome then .startFlash else .dark
     let dark (g : GroupId) : Bool := s.kind g == .unused || m == .dark
     let ends (k : FaultKind) : Bool := k == .redOut || k == .stationOffline || k == .stationFault ||
       k == .channelFailed || k == .signFault
     let ended (r : FaultRecord) : FaultRecord := { r with state := if r.policy = .flash then .latched else .cleared }
     ∃ t, exec .frameSent s = .next t ∧
       t.mode = ⟨m, none, if m = .startFlash then some 0 else none, none, .stopped⟩ ∧
       t.working = none ∧ t.committed = s.committed ∧ t.clock = s.clock ∧ t.queue = [] ∧
       (∀ g, t.groups.get g =
         ⟨if dark g then .off else .flash, 0, 0, false, 0, 0, 0, none, none, none, false, false, false⟩) ∧
       (∀ g, t.demand.get g = ⟨⟨false, false, false, false⟩, 0, [], none⟩) ∧
       (∀ p, t.preempt.get p = ⟨.idle, false, [], false, none, 0⟩) ∧
       t.dimming = ⟨1, none⟩ ∧ t.flash = ⟨true, 0⟩ ∧
       (∀ g c, t.output g c =
         let flashing : Bool := s.kind g == .vehicle && c == .amber && !dark g
         { s.output g c with
           commanded := if flashing then .flashing else .off
           duty := 100
           dutyChanged := (s.output g c).dutyChanged || (s.output g c).duty != 100
           expected := flashing
           settle := if s.committed.isSome then some 150 else none
           mismatch := none
           checkIn := if flashing then some 200 else none }) ∧
       (∀ a, t.audio.get a = ⟨.silent, 0, (s.cfg.audio.get a).volume, 0⟩) ∧
       t.monitor.overlaps = (s.monitor.overlaps.map fun o => if o.standing then o else { o with ms := 0 }) ∧
       (∀ g, t.monitor.clearance.get g = .none) ∧
       t.monitor.conditions = (s.monitor.conditions.filter fun c => !ends c.kind) ∧
       (∀ st, t.stations.get st =
         if (s.cfg.stations.get st).kind = .none then ⟨none, 0, 0, false, 0, false⟩
         else ⟨some .polling, 0, 0, true, 0, false⟩) ∧
       t.bus = ⟨0, false, none, none, some 8⟩ ∧
       (∀ c, t.channel c = ⟨.idle, none, none, 0, none⟩) ∧
       (∀ n, t.signs.get n =
         let c := s.cfg.signs.get n
         let r := s.signs.get n
         let sent : Bool := c.station.isSome
         ⟨r.draft, r.active, r.preempt, ⟨.draft, 0, c.width - 1, 0, c.height - 1, 0, 0⟩, .active,
           if sent then .sending else .idle, if sent then some r.active else none,
           if sent then some .active else none, if sent then some 0 else none, false⟩) ∧
       t.link.inProcess = none ∧ t.link.holding = none ∧ t.link.receiver = none ∧
       t.link.linkErrors = 0 ∧ t.link.overruns = 0 ∧
       t.link.sending = some (.notice ⟨s.clock.uptime,
         .resetDone m s.committed.isSome s.link.holding.isSome s.clock.uptime⟩) ∧
       (FaultLaw s →
         t.faults = (s.faults.map fun r => if r.state = .active ∧ ends r.kind = true then ended r else r) ∧
         (∀ r ∈ s.faults, r.state = .active → ends r.kind = true →
           (⟨s.clock.uptime, .fault (ended r)⟩ : Notice) ∈ t.link.notices) ∧
         t.link.notices.length = (s.faults.filter fun r => r.state == .active && ends r.kind).length ∧
         t.link.overflowCount = 0 ∧ t.link.overflowFlag = false ∧ t.link.marker = false))

/-! ### The configuration -/

/-- CFG_GROUP outside CONFIGURE is WRONG_MODE; a group outside 1 to 24 or an unknown kind is BAD_INDEX;
otherwise the six timings are brought within range in the rule's order, each that changes counts once, and the
seven fields replace those of the group in the working configuration together (R4). -/
def Obligations.CfgGroupClampsAndStores : Prop :=
  ∀ (g : Nat) (k : Option Kind) (a b c d e f : Nat) (s : State), s.free → s.busSettled = true →
    let i := Instr.cfgGroup g k a b c d e f
    (s.mode.mode ≠ .configure → exec i s = .next ((validFrame s).replied i .wrongMode [])) ∧
    ∀ w, s.mode.mode = .configure → s.working = some w →
      (¬(1 ≤ g ∧ g ≤ 24) ∨ k = none → exec i s = .next ((validFrame s).replied i .badIndex [])) ∧
      ∀ (x : GroupId) (kind : Kind), g = x.val + 1 → k = some kind →
        let low := max 20 (min 600 a)
        let record : GroupCfg := ⟨kind, low, max low (max 20 (min 2500 b)), min 100 c,
          if kind = .pedestrian then max 20 (min 200 d) else max 30 (min 60 d), min 30 e, min 100 f⟩
        let count := (if record.minGreen = a then 0 else 1) + (if record.maxGreen = b then 0 else 1) +
          (if record.extUnit = c then 0 else 1) + (if record.clearTime = d then 0 else 1) +
          (if record.prepTime = e then 0 else 1) + (if record.minRed = f then 0 else 1)
        exec i s = .next (State.replied { validFrame s with working := some { w with groups := w.groups.set x record } }
          i (if count = 0 then .ok else .clamped) (if count = 0 then [] else [BitVec.ofNat 8 count]))

/-- CFG_MATRIX_ROW outside CONFIGURE is WRONG_MODE; a group out of range, a group named twice or a time above
25.0 s is BAD_INDEX; otherwise the whole row stands as the request gives it, and the other 23 rows are not
touched (R26). -/
def Obligations.CfgMatrixRowReplacesTheRow : Prop :=
  ∀ (g : Nat) (l : List (Nat × Nat)) (s : State), s.free → s.busSettled = true →
    let i := Instr.cfgMatrixRow g l
    (s.mode.mode ≠ .configure → exec i s = .next ((validFrame s).replied i .wrongMode [])) ∧
    ∀ w, s.mode.mode = .configure → s.working = some w →
      (¬(1 ≤ g ∧ g ≤ 24) ∨ (∃ p ∈ l, ¬(1 ≤ p.1 ∧ p.1 ≤ 24) ∨ 250 < p.2) ∨ ¬(l.map Prod.fst).Nodup →
        exec i s = .next ((validFrame s).replied i .badIndex [])) ∧
      ∀ x : GroupId, g = x.val + 1 → (∀ p ∈ l, 1 ≤ p.1 ∧ p.1 ≤ 24 ∧ p.2 ≤ 250) → (l.map Prod.fst).Nodup →
        ∃ m, exec i s = .next (State.replied { validFrame s with working := some { w with matrix := m } } i .ok []) ∧
          (∀ j : GroupId, matrixTime m x j = (l.find? fun p => p.1 == j.val + 1).map Prod.snd) ∧
          ∀ y : GroupId, y ≠ x → m.get y = w.matrix.get y

/-- CFG_PREEMPT outside CONFIGURE is WRONG_MODE; anything outside the rule's limits is BAD_INDEX; otherwise the
four times are clamped to Table 4-1, each that changes counts once, and all fields of the channel are replaced
together (R68). -/
def Obligations.CfgPreemptClampsAndStores : Prop :=
  ∀ (p : Nat) (a b c d : Nat) (t : List Nat) (e : List Nat) (n : Nat) (f : Option Bool) (s : State),
    s.free → s.busSettled = true →
    let i := Instr.cfgPreempt p a b c d t e n f
    (s.mode.mode ≠ .configure → exec i s = .next ((validFrame s).replied i .wrongMode [])) ∧
    ∀ w, s.mode.mode = .configure → s.working = some w →
      (¬(1 ≤ p ∧ p ≤ 4) ∨ 4 < t.length ∨ 8 < e.length ∨ (∃ x ∈ t ++ e, ¬(1 ≤ x ∧ x ≤ 24)) ∨ ¬t.Nodup ∨ ¬e.Nodup ∨
          4 < n ∨ f = none →
        exec i s = .next ((validFrame s).replied i .badIndex [])) ∧
      ∀ (x : PreemptId) (track dwell : List GroupId) (flag : Bool), p = x.val + 1 → t = track.map numberOf →
        e = dwell.map numberOf → track.length ≤ 4 → dwell.length ≤ 8 → track.Nodup → dwell.Nodup → n ≤ 4 →
        f = some flag →
        let record : PreemptCfg := ⟨min 300 a, min 600 b, track, min 600 c, dwell, min 1200 d, objectOf 4 n, flag⟩
        let count := (if record.delay = a then 0 else 1) + (if record.preemptMin = b then 0 else 1) +
          (if record.trackTime = c then 0 else 1) + (if record.dwellMin = d then 0 else 1)
        exec i s = .next (State.replied
          { validFrame s with working := some { w with preempt := w.preempt.set x record } }
          i (if count = 0 then .ok else .clamped) (if count = 0 then [] else [BitVec.ofNat 8 count]))

/-- CFG_GLOBAL (R101): an unknown policy is refused; otherwise the three times are brought within the ranges of
Table 5-5, and the five settings are replaced together. CFG_BUS (R144) and CFG_OUTPUT (R108): a value is brought
within its range and then down to a step of 10. CFG_AUDIO (R118), CFG_STATION (R143) and CFG_SIGN (R177):
records are stored whole, their values clamped. Each value that changes counts once. All six are WRONG_MODE
outside CONFIGURE, and BAD_INDEX for a number or a code out of range. -/
def Obligations.CfgRecordsClampAndStore : Prop :=
  (∀ (a b c d : Nat) (h r : Option FaultPolicy) (colour : Option Colour) (flag : Option Bool)
     (chirp : Option ChirpLength) (kind : Option StationKind) (depth : Option Depth) (s : State), s.free →
     s.busSettled = true → s.mode.mode ≠ .configure →
     let wrong (i : Instr) : Prop := exec i s = .next ((validFrame s).replied i .wrongMode [])
     wrong (.cfgGlobal a b c h r) ∧ wrong (.cfgBus a) ∧ wrong (.cfgOutput a colour flag b) ∧
       wrong (.cfgAudio a b c d chirp) ∧ wrong (.cfgStation a kind flag) ∧ wrong (.cfgSign a b c d depth)) ∧
  (∀ (a b c : Nat) (h r : Option FaultPolicy) (s : State) (w : Configuration), s.free → s.busSettled = true →
     s.mode.mode = .configure → s.working = some w →
     let i := Instr.cfgGlobal a b c h r
     (h = none ∨ r = none → exec i s = .next ((validFrame s).replied i .badIndex [])) ∧
     ∀ x, h = some x → ∀ y, r = some y →
       let limit := if c = 0 then 0 else max 2 (min 60 c)
       let record : GlobalCfg := ⟨max 30 (min 600 a), max 20 (min 100 b), limit, x, y⟩
       let count := (if record.startFlash = a then 0 else 1) + (if record.startRed = b then 0 else 1) +
         (if record.silence = c then 0 else 1)
       exec i s = .next (State.replied { validFrame s with working := some { w with global := record } }
         i (if count = 0 then .ok else .clamped) (if count = 0 then [] else [BitVec.ofNat 8 count]))) ∧
  (∀ (g v : Nat) (colour : Option Colour) (flag : Option Bool) (s : State) (w : Configuration), s.free →
     s.busSettled = true → s.mode.mode = .configure → s.working = some w →
     (let i := Instr.cfgBus v
      let stored := 10 * (max 100 (min 1000 v) / 10)
      exec i s = .next (State.replied { validFrame s with working := some { w with pollPeriod := stored } } i
         (if stored = v then .ok else .clamped) (if stored = v then [] else [1#8]))) ∧
     let i := Instr.cfgOutput g colour flag v
     let stored := 10 * (max 50 (min 2000 v) / 10)
     (¬(1 ≤ g ∧ g ≤ 24) ∨ colour = none ∨ flag = none → exec i s = .next ((validFrame s).replied i .badIndex [])) ∧
     ∀ (x : GroupId), g = x.val + 1 → ∀ (c : Colour), colour = some c → ∀ (f : Bool), flag = some f →
       exec i s = .next (State.replied
         { validFrame s with
           working := some { w with outputs := w.outputs.set x ((w.outputs.get x).put c ⟨f, stored⟩) } }
         i (if stored = v then .ok else .clamped) (if stored = v then [] else [1#8]))) ∧
  (∀ (a : AudioId) (g tone volume : Nat) (chirp : ChirpLength) (s : State) (w : Configuration), s.free →
     s.busSettled = true → s.mode.mode = .configure → s.working = some w → g ≤ 24 →
     let i := Instr.cfgAudio (a.val + 1) g tone volume (some chirp)
     let record : AudioCfg := ⟨objectOf 24 g, max 1 (min 8 tone), max 1 (min 8 volume), chirp⟩
     let count := (if record.tone = tone then 0 else 1) + (if record.volume = volume then 0 else 1)
     exec i s = .next (State.replied { validFrame s with working := some { w with audio := w.audio.set a record } }
       i (if count = 0 then .ok else .clamped) (if count = 0 then [] else [BitVec.ofNat 8 count]))) ∧
  (∀ (st : StationId) (kind : StationKind) (urgent : Bool) (s : State) (w : Configuration), s.free →
     s.busSettled = true → s.mode.mode = .configure → s.working = some w →
     let i := Instr.cfgStation (st.val + 1) (some kind) (some urgent)
     exec i s = .next (State.replied
       { validFrame s with working := some { w with stations := w.stations.set st ⟨kind, urgent⟩ } } i .ok [])) ∧
  (∀ (n : SignId) (st width height : Nat) (depth : Depth) (s : State) (w : Configuration), s.free →
     s.busSettled = true → s.mode.mode = .configure → s.working = some w → st ≤ 32 →
     let i := Instr.cfgSign (n.val + 1) st width height (some depth)
     let record : SignCfg := ⟨objectOf 32 st, max 8 (min 128 width), max 8 (min 48 height), depth⟩
     let count := (if record.width = width then 0 else 1) + (if record.height = height then 0 else 1)
     exec i s = .next (State.replied { validFrame s with working := some { w with signs := w.signs.set n record } }
       i (if count = 0 then .ok else .clamped) (if count = 0 then [] else [BitVec.ofNat 8 count]))) ∧
  (∀ (a b c d : Nat) (chirp : Option ChirpLength) (kind : Option StationKind) (urgent : Option Bool)
     (depth : Option Depth) (s : State) (w : Configuration), s.free → s.busSettled = true →
     s.mode.mode = .configure → s.working = some w →
     let refused (i : Instr) : Prop := exec i s = .next ((validFrame s).replied i .badIndex [])
     (¬(1 ≤ a ∧ a ≤ 8) ∨ 24 < b ∨ chirp = none → refused (.cfgAudio a b c d chirp)) ∧
     (¬(1 ≤ a ∧ a ≤ 32) ∨ kind = none ∨ urgent = none → refused (.cfgStation a kind urgent)) ∧
     (¬(1 ≤ a ∧ a ≤ 4) ∨ 32 < b ∨ depth = none → refused (.cfgSign a b c d depth)))

/-- CFG_CHANNEL (R163): WRONG_MODE outside CONFIGURE; a station, a channel or an operation out of range is
BAD_INDEX, and so is an ADD of one channel more than 64; ADD and REMOVE of one channel, its stuck_limit at most
60. CFG_ACCEPT (R169): WRONG_MODE outside CONFIGURE; EMPTY clears an entry; an entry that Table 9-3 allows
replaces it whole; an index outside 1 to 48, an unknown action or kind code, a number out of range, a first
station above the last, an empty list, a number repeated in one list, or an operand count other than the
action's is BAD_INDEX. -/
def Obligations.CfgChannelAndAcceptWriteTheirTables : Prop :=
  (∀ (a b limit : Nat) (op : Option ChannelOp) (action : Option Action) (arg : Option AcceptArg) (s : State), s.free →
     s.busSettled = true →
     let answers (i : Instr) (r : Result) : Prop := exec i s = .next ((validFrame s).replied i r [])
     (s.mode.mode ≠ .configure →
       answers (.cfgChannel a b op limit) .wrongMode ∧ answers (.cfgAccept a action arg) .wrongMode) ∧
     (s.mode.mode = .configure → s.working.isSome = true →
       (¬(1 ≤ a ∧ a ≤ 32) ∨ ¬(1 ≤ b ∧ b ≤ 8) ∨ op = none → answers (.cfgChannel a b op limit) .badIndex))) ∧
  (∀ (s : State) (w : Configuration) (c : ChannelId) (limit : Nat), s.free → s.busSettled = true →
     s.mode.mode = .configure → s.working = some w →
     let number (x : ChannelId) : Nat × Nat := (x.station.val + 1, x.channel.val + 1)
     let present (x : ChannelId) : Bool := ((w.channels.get x.station).get x.channel).isSome
     let full : Prop := 64 ≤ (allChannels.filter present).length
     let add := Instr.cfgChannel (number c).1 (number c).2 (some .add) limit
     let remove := Instr.cfgChannel (number c).1 (number c).2 (some .remove) limit
     let store (v : Option Nat) : State := { validFrame s with
       working := some { w with channels := w.channels.set c.station ((w.channels.get c.station).set c.channel v) } }
     (present c = false → full → exec add s = .next ((validFrame s).replied add .badIndex [])) ∧
     (present c = true ∨ ¬full → exec add s = .next ((store (some (min 60 limit))).replied add
       (if limit ≤ 60 then .ok else .clamped) (if limit ≤ 60 then [] else [1#8]))) ∧
     exec remove s = .next ((store none).replied remove .ok [])) ∧
  (∀ (x : AcceptId) (action : Action) (first last : StationId) (channels : List ChannelNo) (kinds : List EventKind)
     (groups : List GroupId) (p : PreemptId) (s : State) (w : Configuration), s.free → s.busSettled = true →
     s.mode.mode = .configure → s.working = some w → first.val ≤ last.val → channels ≠ [] → channels.Nodup →
     kinds ≠ [] → kinds.Nodup →
     let store (e : AcceptEntry) : State :=
       { validFrame s with working := some { w with accept := w.accept.set x e } }
     let carried (operand : List Nat) : Option AcceptArg :=
       some ⟨first.val + 1, last.val + 1, channels.map numberOf, kinds.map some, operand⟩
     (let i := Instr.cfgAccept (x.val + 1) (some .empty) none
      exec i s = .next ((store AcceptEntry.blank).replied i .ok [])) ∧
     (action = .call ∧ 1 ≤ groups.length ∧ groups.length ≤ 4 ∧ groups.Nodup ∨
         (action = .extend ∨ action = .callExtend ∨ action = .ped) ∧ groups.length = 1 ∨
         (action = .forward ∨ action = .discard) ∧ groups = [] →
       let i := Instr.cfgAccept (x.val + 1) (some action) (carried (groups.map numberOf))
       exec i s = .next ((store ⟨action, first, last, channels, kinds, groups, none⟩).replied i .ok [])) ∧
     (let i := Instr.cfgAccept (x.val + 1) (some .preempt) (carried [numberOf p])
      exec i s = .next ((store ⟨.preempt, first, last, channels, kinds, [], some p⟩).replied i .ok []))) ∧
  (∀ (index : Nat) (action : Option Action) (a : AcceptArg) (s : State), s.free → s.busSettled = true →
     s.mode.mode = .configure → s.working.isSome = true →
     let answers (arg : Option AcceptArg) : Prop :=
       exec (.cfgAccept index action arg) s = .next ((validFrame s).replied (.cfgAccept index action arg) .badIndex [])
     let groups : Bool := action == some .extend || action == some .callExtend || action == some .ped
     let numbers (l : List Nat) (limit : Nat) : Prop := l ≠ [] ∧ l.Nodup ∧ ∀ x ∈ l, 1 ≤ x ∧ x ≤ limit
     (¬(1 ≤ index ∧ index ≤ 48) → answers none ∧ answers (some a)) ∧
     (action = none → answers none ∧ answers (some a)) ∧
     (action ≠ some .empty →
       (¬(1 ≤ a.first ∧ a.first ≤ a.last ∧ a.last ≤ 32) → answers (some a)) ∧
       (¬numbers a.channels 8 → answers (some a)) ∧
       (a.kinds = [] ∨ ¬a.kinds.Nodup ∨ none ∈ a.kinds → answers (some a)) ∧
       (action = some .call → ¬(numbers a.operand 24 ∧ a.operand.length ≤ 4) → answers (some a)) ∧
       (groups = true → ¬(numbers a.operand 24 ∧ a.operand.length = 1) → answers (some a)) ∧
       (action = some .preempt → ¬(numbers a.operand 4 ∧ a.operand.length = 1) → answers (some a)) ∧
       (action = some .forward ∨ action = some .discard → a.operand ≠ [] → answers (some a))))

/-- CFG_COMMIT refused: outside CONFIGURE with WRONG_MODE, and with INVALID_CONFIG naming the first check of
Table 5-6 that finds an offence, and the first object that offends against it: of the matrix checks the first
pair in row-major order (R27), of the preemption checks the lowest channel with its first group or pair in list
order (R69; the order of the pairs of DWELL_CONFLICT is log entry 30), of the others the lowest sign, detector
channel, entry or audible output (R178, R172, R119). In either case nothing changes but the link and what a
valid frame touches (R102). With no offence there is no refusal. The order is carried as check and order number
(log entry 11). -/
def Obligations.FailedCommitChangesNothing : Prop :=
  (∀ s : State, s.free → s.busSettled = true → s.mode.mode ≠ .configure →
     exec .cfgCommit s = .next ((validFrame s).replied .cfgCommit .wrongMode [])) ∧
  (∀ (s : State) (w : Configuration), s.free → s.busSettled = true → s.mode.mode = .configure →
     s.working = some w →
     let refused (order : Nat) (object : List Nat) : Prop := exec .cfgCommit s = .next ((validFrame s).replied
       .cfgCommit .invalidConfig (BitVec.ofNat 8 order :: BitVec.ofNat 8 order :: object.map (BitVec.ofNat 8)))
     let time (i j : GroupId) : Option Nat := (w.matrix.get i).get j
     let meet (i j : GroupId) : Bool := (time i j).isSome
     let idle (g : GroupId) : Bool := (w.groups.get g).kind == .unused
     let offends (order : Nat) (i j : GroupId) : Bool :=
       if order = 1 then i == j && meet i j
       else if order = 2 then meet i j && !meet j i
       else if order = 3 then meet i j && (idle i || idle j)
       else match time i j with
         | none => false
         | some t => decide (t < (w.groups.get i).clearTime)
     let pairs (order : Nat) : Prop := ∃ i j, offends order i j = true
     let named (order : Nat) : Prop := ∀ i j : GroupId, offends order i j = true →
       (∀ x y : GroupId, x.val < i.val ∨ x = i ∧ y.val < j.val → offends order x y = false) →
       refused order [i.val + 1, j.val + 1]
     let track (p : PreemptId) : List GroupId := (w.preempt.get p).track
     let dwell (p : PreemptId) : List GroupId := (w.preempt.get p).dwell
     let hasIdle (p : PreemptId) : Prop := ∃ g ∈ track p ++ dwell p, idle g = true
     let hasPair (l : List GroupId) : Prop := ¬l.Pairwise fun a b => meet a b = false
     let before (p : PreemptId) : List GroupId := (track p).filter fun g => !(dwell p).contains g
     let after (p : PreemptId) : List GroupId := (dwell p).filter fun g => !(track p).contains g
     let crossed (p : PreemptId) : Prop := ∃ a ∈ before p, ∃ b ∈ after p, meet a b = true
     let unsigned (p : PreemptId) : Prop := ∃ n, (w.preempt.get p).sign = some n ∧ (w.signs.get n).station = none
     let first (p : PreemptId) (bad : PreemptId → Prop) : Prop := ∀ q : PreemptId, q.val < p.val → ¬bad q
     let pairNamed (order : Nat) (p : PreemptId) (l : List GroupId) : Prop :=
       ∀ x a r, l = x ++ a :: r → ∀ y b z, r = y ++ b :: z → meet a b = true →
         (∀ o ∈ x, ∀ c ∈ l, meet o c = false ∧ meet c o = false) → (∀ c ∈ y, meet a c = false) →
         refused order [p.val + 1, a.val + 1, b.val + 1]
     let large (n : SignId) : Bool := (w.signs.get n).station.isSome &&
       decide (4096 < (w.signs.get n).width * (w.signs.get n).height)
     let misplaced (n : SignId) : Prop := ∃ st, (w.signs.get n).station = some st ∧
       ((w.stations.get st).kind ≠ .sign ∨ ∃ m : SignId, m.val < n.val ∧ (w.signs.get m).station = some st)
     let stray (c : ChannelId) : Bool := ((w.channels.get c.station).get c.channel).isSome &&
       (w.stations.get c.station).kind != .detector
     let unfit (x : AcceptId) : Prop := ∃ g ∈ (w.accept.get x).groups,
       idle g = true ∨ (w.accept.get x).action = .ped ∧ (w.groups.get g).kind ≠ .pedestrian
     let unheard (a : AudioId) : Prop := ∃ g, (w.audio.get a).group = some g ∧ (w.groups.get g).kind ≠ .pedestrian
     let check (offence found next : Prop) : Prop := (offence → found) ∧ (¬offence → next)
     check (pairs 1) (named 1) <| check (pairs 2) (named 2) <| check (pairs 3) (named 3) <|
     check (pairs 4) (named 4) <|
     check (∃ p, hasIdle p) (∀ p, first p hasIdle → ∀ x g r, track p ++ dwell p = x ++ g :: r → idle g = true →
       (∀ o ∈ x, idle o = false) → refused 5 [p.val + 1, g.val + 1]) <|
     check (∃ p, hasPair (track p)) (∀ p, (first p fun q => hasPair (track q)) → pairNamed 6 p (track p)) <|
     check (∃ p, crossed p ∨ hasPair (dwell p)) (∀ p, (first p fun q => crossed q ∨ hasPair (dwell q)) →
       (∀ x a r, before p = x ++ a :: r → ∀ y b z, after p = y ++ b :: z → meet a b = true →
         (∀ o ∈ x, ∀ c ∈ after p, meet o c = false) → (∀ c ∈ y, meet a c = false) →
         refused 7 [p.val + 1, a.val + 1, b.val + 1]) ∧
       (¬crossed p → pairNamed 7 p (dwell p))) <|
     check (∃ p, unsigned p) (∀ p, first p unsigned → ∀ n, (w.preempt.get p).sign = some n →
       (w.signs.get n).station = none → refused 8 [p.val + 1, n.val + 1]) <|
     check (∃ n, large n = true) (∀ n, large n = true → (∀ m : SignId, m.val < n.val → large m = false) →
       refused 9 [n.val + 1]) <|
     check (∃ n, misplaced n) (∀ n, misplaced n → (∀ m : SignId, m.val < n.val → ¬misplaced m) →
       refused 10 [n.val + 1]) <|
     check (∃ c, stray c = true) (∀ c, stray c = true →
       (∀ d : ChannelId, d.station.val < c.station.val ∨ d.station = c.station ∧ d.channel.val < c.channel.val →
         stray d = false) → refused 11 [c.station.val + 1, c.channel.val + 1]) <|
     check (∃ x, unfit x) (∀ x, unfit x → (∀ y : AcceptId, y.val < x.val → ¬unfit y) → refused 12 [x.val + 1]) <|
     check (∃ a, unheard a) (∀ a, unheard a → (∀ b : AudioId, b.val < a.val → ¬unheard b) → refused 13 [a.val + 1]) <|
     firstOffence w = none)

/-- CFG_COMMIT that passes every check: the committed configuration is the working one, which is kept; the mode
stays CONFIGURE, with a MODE notice of cause COMMIT; a group now UNUSED has a fresh record and is OFF, a group
newly configured starts fresh in the state of the mode CONFIGURE was entered from, and a group that stays
configured takes that state and keeps the rest of its record; failed_recall, the hold sets and the detector
sources are emptied, a demand is kept exactly for a configured group, a channel PENDING on its detectors alone
becomes IDLE, and every output is commanded by its group's new kind and state (R103, R5, R66, R70, R109). What
FAILED detector channels report anew is left out: the statement is for a working configuration with no detector
channels. -/
def Obligations.CommitInstallsTheConfiguration : Prop :=
  ∀ (s : State) (w : Configuration), s.free → s.mode.mode = .configure → s.working = some w →
    firstOffence w = none → (∀ st c, (w.channels.get st).get c = none) →
    let target : GroupState := if s.mode.enteredFrom = some .flash then .flash else .off
    ∃ t, exec .cfgCommit s = .next t ∧ t.repliedTo .cfgCommit .ok [] ∧
      t.committed = some w ∧ t.working = some w ∧ t.mode.mode = .configure ∧
      t.mode.enteredFrom = s.mode.enteredFrom ∧
      Tells s t (.mode .configure .configure .commit true) ∧
      t.queue = s.queue ∧ t.dimming = s.dimming ∧ t.flash = s.flash ∧ t.clock = s.clock ∧
      (∀ g, t.groups.get g =
        if (w.groups.get g).kind = .unused then Group.fresh
        else if s.kind g = .unused then { Group.fresh with state := target }
        else { s.groups.get g with state := target }) ∧
      (∀ g, t.demand.get g =
        if (w.groups.get g).kind = .unused then Demand.fresh
        else { s.demand.get g with failedRecall := 0, hold := [] }) ∧
      (∀ p, (t.preempt.get p).sources = [] ∧ (t.preempt.get p).host = (s.preempt.get p).host ∧
        (t.preempt.get p).state =
          (if (s.preempt.get p).state = .pending ∧ (s.preempt.get p).host = false then .idle
           else (s.preempt.get p).state)) ∧
      (∀ g c, (t.output g c).commanded = commandOf (w.groups.get g).kind (t.groups.get g).state c)

/-- CFG_COMMIT that passes every check, in the blocks beside the signal core. Stations (R160): a record of a
changed kind starts anew, told by a STATION notice, and the cycle boundary that the commit brings makes polls
due by Table 8-2; the transaction in flight is marked for what R160 and R179 say of its outcome. Detector
channels (R173): a channel that stays keeps its record, but that one stuck beyond its new limit fails and one
FAILED names anew; a new one starts IDLE, or FAILED on a lost station; one taken out is gone. Signs (Table 10-2,
R179): unchanged, made absent, or restarted, with dark pages where its geometry or depth has changed: a restart
waits in SUSPENDED where the sign's station is lost, else behind a transaction in flight, else is made at once. Duties follow the dimmable flags (R109), and audible outputs take their
groups' patterns with no chirp (R119, R120). -/
def Obligations.CommitReachesTheOtherBlocks : Prop :=
  ∀ (s : State) (w : Configuration), s.free → SequenceLaw s → s.mode.mode = .configure → s.working = some w →
    firstOffence w = none →
    let old := s.cfg
    let moved (st : StationId) : Bool := (old.stations.get st).kind != (w.stations.get st).kind
    let lost (t : State) (st : StationId) : Bool :=
      (t.stations.get st).state == some .offline || (t.stations.get st).state == some .suspended
    let served (t : State) (n : SignId) : Bool := match (w.signs.get n).station with
      | none => false
      | some st => (t.stations.get st).state == some .polling || (t.stations.get st).state == some .degraded
    ∃ t, exec .cfgCommit s = .next t ∧ t.repliedTo .cfgCommit .ok [] ∧
      (t.bus.cycleMs = 0 ∧ t.bus.halfDone = false ∧ ∀ x, s.bus.transaction = some x →
        t.bus.transaction = some { x with
          stale := x.stale || moved x.station
          restartOnly := x.restartOnly || (match x.job with
            | .poll => false
            | .chunk n _ | .flip n => old.signs.get n != w.signs.get n) }) ∧
      (∀ st,
        let r : Station := if moved st = false then s.stations.get st
          else ⟨if (w.stations.get st).kind = .none then none else some .polling, 0, 0, false, 0, false⟩
        t.stations.get st = (match r.state with
          | some .polling => { r with due := true }
          | some .degraded =>
            if (w.stations.get st).urgent then { r with due := true }
            else if r.cycle = 3 then { r with due := true, cycle := 0 }
            else { r with cycle := r.cycle + 1 }
          | _ => r) ∧
        (moved st = true → Tells s t (.station st (w.stations.get st).kind (t.stations.get st).state 0 .commit))) ∧
      (∀ c : ChannelId,
        let r := s.channel c
        let named := selectNamed w.accept c
        let before := (old.channels.get c.station).get c.channel
        let after := (w.channels.get c.station).get c.channel
        let stuck : Bool := match after, r.occupiedSince with
          | some limit, some since =>
            r.state == .occupied && limit != 0 && decide (600 * limit ≤ (s.clock.tenths - since).toNat)
          | _, _ => false
        t.channel c =
          (if before = none ∧ after = none then r
          else if after = none then ⟨.idle, none, none, 0, none⟩
          else if before = none then
            if lost t c.station then ⟨.failed, some .station, none, 0, named⟩ else ⟨.idle, none, none, 0, none⟩
          else if stuck then
            { r with state := .failed, cause := some .stuck, occupiedSince := none, named := named }
          else if r.state = .failed then { r with named := named } else r) ∧
        (before.isSome = true → after = none → FaultLaw s →
          t.stands .channelFailed ⟨c.station.val + 1, c.channel.val + 1⟩ = false)) ∧
      (∀ n : SignId,
        let a := old.signs.get n
        let b := w.signs.get n
        let r := s.signs.get n
        let dark := List.replicate (b.width * b.height) 0
        let base : Sign := if a.station = none ∨ a.width ≠ b.width ∨ a.height ≠ b.height ∨ a.depth ≠ b.depth then
            { r with
              draft := dark, active := dark, preempt := dark
              window := ⟨.draft, 0, b.width - 1, 0, b.height - 1, 0, 0⟩, showing := .active }
          else r
        if a = b then t.signs.get n = r
        else if b.station = none then t.signs.get n =
          ⟨dark, dark, dark, ⟨.draft, 0, b.width - 1, 0, b.height - 1, 0, 0⟩, .active, .idle, none, none, none, false⟩
        else if served t n = true then
          (s.signBusy n = true → t.signs.get n = { base with restart := true }) ∧
          (s.signBusy n = false →
            t.signs.get n = { base with
              transfer := .sending, image := some (if base.showing = .active then base.active else base.preempt)
              imagePage := some base.showing, chunk := some 0, restart := false } ∧
            Tells s t (.sign n b.station .sending (if r.transfer = .sending then .restarted else .started)
              base.showing (some base.showing) (some 0) ((b.width * b.height + 63) / 64) false))
        else
          let waits : Sign := { base with
            transfer := .suspended, chunk := if r.transfer = .idle then some 0 else base.chunk, restart := true }
          t.signs.get n = waits ∧
          (r.transfer ≠ .suspended →
            Tells s t (.sign n b.station .suspended .suspended base.showing base.imagePage waits.chunk
              ((b.width * b.height + 63) / 64) true))) ∧
      (∀ g c,
        let before := ((old.outputs.get g).get c).dimmable
        let after := ((w.outputs.get g).get c).dimmable
        (t.output g c).duty = (if before = after then (s.output g c).duty
          else if after then dutyOf s.dimming.level else 100) ∧
        (t.output g c).dutyChanged = ((s.output g c).dutyChanged || before != after)) ∧
      ∀ a, t.audio.get a = ⟨match (w.audio.get a).group with
          | none => .silent
          | some g => match (t.groups.get g).state with
            | .red | .prep => .locate
            | .green => .walk
            | .clear | .flash | .off => .silent,
        0, volumeOf (w.audio.get a).volume s.dimming.level, 0⟩

/-! ### Reports -/

/-- The status requests that change nothing: each reports the object it names as it stands, in every mode, or
refuses with BAD_INDEX a number that names none (R22, R40, R65, R87, R105, R117, R123, R140, R158, R169, R189).
All eleven reports are spelled out, item by item, in the encodings of R202. The bytes that R202 leaves open are
log entry 11: the single 0xFF for an absent record, the codes of timers and markers, the orders of fields and
members, the count that stands once before the entries of the queue and the records of faults, and the depth in
the geometry of a sign not configured; what a two-byte field carries beyond 65535 is log entry 9. The reading of "next due" as the
milliseconds to the boundary is log entry 20, for an urgent station back in service log entry 34, and the global
settings before the first commit are log entry 33. -/
def Obligations.StatusRequestsChangeNothing : Prop :=
  (∀ s : State, s.free → s.busSettled = true →
    let u := validFrame s
    let reports (i : Instr) (items : List Byte) : Prop := exec i s = .next (u.replied i .ok items)
    let inFlight (x : Option Transaction) : List Byte := match x with
      | none => flag1 false ++ [0xFF#8]
      | some x => flag1 true ++ (match x.job with
        | .poll => [1#8]
        | .chunk _ _ => [2#8]
        | .flip _ => [3#8])
    (∀ g : GroupId,
      let c := s.groupCfg g
      let r := s.groups.get g
      let d := s.demand.get g
      reports (.groupStatus (g.val + 1)) (byte1 (codeOfKind c.kind) ++ byte2 c.minGreen ++ byte2 c.maxGreen ++
        byte2 c.extUnit ++ byte2 c.clearTime ++ byte2 c.prepTime ++ byte2 c.minRed ++
        byte1 (codeOfGroupState r.state) ++ byte2 (match r.state with
          | .prep => r.prepTimer
          | .green => r.greenElapsed
          | .clear => r.clearTimer
          | _ => 0) ++
        byte2 r.redAge ++ byte2 r.greenEndAge ++ maybe1 (r.policy.map codeOfPolicy) ++ maybe2 r.maxOverride ++
        flag1 r.leavePending ++ maybe1 (r.lastReason.map codeOfReason) ++ flag1 r.inhibit ++ flag1 r.recalls) ∧
      reports (.demandStatus (g.val + 1))
        (byte1 (if d.sources.detector || d.sources.host || d.sources.recalls || d.sources.failed then 2 else 1) ++
        byte1 ((if d.sources.detector then 1 else 0) + (if d.sources.host then 2 else 0) +
          (if d.sources.recalls then 4 else 0) + (if d.sources.failed then 8 else 0)) ++
        byte1 d.failedRecall ++ byte1 (d.hold.filter fun m => m.2 == .occupied).length ++
        byte1 (d.hold.filter fun m => m.2 == .failed).length ++ byte1 (codeOfGroupState r.state) ++
        (match d.timers with
          | none => flag1 false ++ [0xFF#8]
          | some x => flag1 true ++
            (match x.gap with
              | .holding => [1#8]
              | .running left => 2#8 :: byte2 left
              | .expired => [3#8]) ++
            (match x.elapsed with
              | none => [1#8]
              | some e => 2#8 :: byte2 e) ++ byte2 x.limit))) ∧
    (∀ (g : GroupId) (c : Colour),
      let k := (s.cfg.outputs.get g).get c
      let o := s.output g c
      reports (.outputStatus (g.val + 1) (some c)) (flag1 k.dimmable ++ byte2 k.iNom ++
        byte1 (codeOfCommand o.commanded) ++ (if o.commanded = .flashing then flag1 s.flash.lit else []) ++
        byte1 o.duty ++ byte1 s.dimming.level ++
        (match s.dimming.ramp with
          | none => [0xFF#8]
          | some r => byte1 r.target ++ byte1 (codeOfInterval r.interval) ++ byte2 r.left) ++
        byte1 (if o.sensed then 1 else 2) ++ maybe2 o.lastCurrent ++ byte1 o.lowCount ++ byte1 o.highCount ++
        byte1 (codeOfHealth o.health))) ∧
    (∀ p : PreemptId,
      let c := s.cfg.preempt.get p
      let r := s.preempt.get p
      reports (.preemptStatus (p.val + 1)) (byte2 c.delay ++ byte2 c.preemptMin ++ list1 (c.track.map numberOf) ++
        byte2 c.trackTime ++ list1 (c.dwell.map numberOf) ++ byte2 c.dwellMin ++ maybeIndex c.sign ++
        flag1 c.failAssert ++ byte1 (codeOfChanState r.state) ++
        (match r.phase with
          | none => []
          | some e => byte2 e) ++
        byte1 (if r.host then 1 else 2) ++ byte1 r.sources.length ++
        (r.sources.flatMap fun m => byte1 (m.1.station.val + 1) ++ byte1 (m.1.channel.val + 1) ++
          byte1 (match m.2 with
            | .occupied => 1
            | .pressed => 2
            | .failed => 3)) ++ flag1 r.overridden ++ byte1 r.truncated)) ∧
    (∀ a : AudioId, reports (.audioStatus (a.val + 1))
      (maybeIndex (s.cfg.audio.get a).group ++ byte1 (s.cfg.audio.get a).tone ++ byte1 (s.cfg.audio.get a).volume ++
        byte1 (codeOfChirp (s.cfg.audio.get a).chirp) ++ byte1 (codeOfPattern (s.audio.get a).pattern) ++
        byte2 (s.audio.get a).chirpLeft ++ byte1 (s.audio.get a).volume)) ∧
    (∀ st : StationId,
      let c := s.cfg.stations.get st
      let r := s.stations.get st
      let toCycle := s.cfg.pollPeriod - s.bus.cycleMs
      reports (.stationStatus (st.val + 1)) (byte1 (codeOfStationKind c.kind) ++ flag1 c.urgent ++
        maybe1 (r.state.map codeOfStationState) ++ byte1 r.score ++ byte1 r.retries ++ flag1 r.warned ++ flag1 r.due ++
        (if r.state = some .polling ∨ r.state = some .degraded then
          byte2 (if c.urgent then if s.bus.halfDone then toCycle else s.cfg.pollPeriod / 2 - s.bus.cycleMs
            else if r.state = some .degraded then toCycle + (3 - r.cycle) * s.cfg.pollPeriod
            else toCycle)
        else [0xFF#8, 0xFF#8]) ++
        byte1 r.cycle ++ byte2 s.cfg.pollPeriod ++
        inFlight (s.bus.transaction.filter fun x => x.station == st))) ∧
    (∀ x : AcceptId,
      let e := s.cfg.accept.get x
      reports (.acceptStatus (x.val + 1)) (if e.action = .empty then [1#8]
        else byte1 (codeOfAction e.action) ++ byte1 (e.first.val + 1) ++ byte1 (e.last.val + 1) ++
          list1 (e.channels.map numberOf) ++ list1 (e.kinds.map codeOfEventKind) ++
          (match e.channel with
            | none => list1 (e.groups.map numberOf)
            | some p => [1#8, BitVec.ofNat 8 (p.val + 1)]))) ∧
    (∀ n : SignId,
      let c := s.cfg.signs.get n
      let r := s.signs.get n
      reports (.signStatus (n.val + 1)) (maybeIndex c.station ++ byte1 c.width ++ byte1 c.height ++
        byte1 (match c.depth with
          | .d1 => 1
          | .d4 => 2
          | .d9 => 3) ++
        (if c.station = none then []
        else byte1 ((c.width * c.height + 63) / 64) ++ byte1 (codeOfWritePage r.window.page) ++ byte1 r.window.c0 ++
          byte1 r.window.c1 ++ byte1 r.window.r0 ++ byte1 r.window.r1 ++ byte1 r.window.col ++ byte1 r.window.row ++
          byte1 (codeOfShowing r.showing) ++ byte1 (codeOfTransfer r.transfer) ++
          maybe1 (r.imagePage.map codeOfShowing) ++ byte1 (r.chunk.getD 0) ++ flag1 r.restart ++
          inFlight (s.bus.transaction.filter fun x => match x.job with
            | .poll => false
            | .chunk m _ | .flip m => m == n)))) ∧
    reports .queueStatus (byte4 s.clock.tenths ++ byte1 s.queue.length ++ s.queue.flatMap fun e =>
      byte1 (e.group.val + 1) ++ byte1 (match e.origin with
        | .host => 0
        | .preempt p => p.val + 1) ++ byte1 (codeOfPolicy e.policy) ++ maybe2 e.maxOverride ++ byte4 e.queuedAt) ∧
    reports .modeStatus (byte1 (codeOfMode s.mode.mode) ++
      (match s.mode.enteredFrom with
        | none => []
        | some m => byte1 (codeOfMode m)) ++
      (match s.mode.stage with
        | none => []
        | some .draining => [1#8]
        | some .allRed => [2#8]) ++
      (match s.mode.phase with
        | none => []
        | some e => byte2 e ++
          byte2 (if s.mode.mode = .startFlash then s.cfg.global.startFlash else s.cfg.global.startRed)) ++
      (if s.mode.silence = .stopped then [1#8, 0xFF#8, 0xFF#8] else [2#8, 0#8, 0#8]) ++ flag1 s.committed.isSome ++
      byte2 s.cfg.global.startFlash ++ byte2 s.cfg.global.startRed ++ byte1 s.cfg.global.silence ++
      byte1 (codeOfFaultPolicy s.cfg.global.hostSilent) ++ byte1 (codeOfFaultPolicy s.cfg.global.redOut)) ∧
    reports .faultStatus (byte1 u.faults.length ++ u.faults.flatMap fun r =>
      byte1 (codeOfFaultKind r.kind) ++ byte1 (codeOfFaultPolicy r.policy) ++ byte1 r.object.a ++ byte1 r.object.b ++
        byte1 (codeOfFaultState r.state) ++ byte4 r.firstSeen ++ byte4 r.lastSeen ++ byte1 r.occurrences)) ∧
  (∀ (n m : Nat) (c : Option Colour) (s : State), s.free → s.busSettled = true →
    let refused (limit : Nat) (i : Instr) : Prop :=
      n = 0 ∨ limit < n → exec i s = .next ((validFrame s).replied i .badIndex [])
    refused 24 (.groupStatus n) ∧ refused 24 (.demandStatus n) ∧ refused 24 (.outputStatus n c) ∧
      exec (.outputStatus n none) s = .next ((validFrame s).replied (.outputStatus n none) .badIndex []) ∧
      refused 4 (.preemptStatus n) ∧ refused 8 (.audioStatus n) ∧ refused 32 (.stationStatus n) ∧
      refused 32 (.channelStatus n m) ∧ refused 8 (.channelStatus m n) ∧ refused 48 (.acceptStatus n) ∧
      refused 4 (.signStatus n))

/-- CHANNEL_STATUS reads the pulse count of a configured channel to 0 (R174), and STATUS_SUMMARY reports Table
12-6 and clears the overflow flag it has reported (R199); neither changes anything else. The manual gives these
replies no bytes for three items, and there the clauses state the model's choice: the single byte 0xFF for a
channel that is not configured and the layout of what a failure names (log entry 11), and a time OCCUPIED beyond
65535, which is a free value (log entry 9). -/
def Obligations.ReadingClearsPulsesAndOverflowFlag : Prop :=
  ∀ s : State, s.free → s.busSettled = true →
    let u := validFrame s
    (∀ (c : ChannelId) (limit : Nat), s.stuckLimit c = some limit →
      let i := Instr.channelStatus (c.station.val + 1) (c.channel.val + 1)
      exec i s = .next ((u.putChannel c { s.channel c with pulses := 0 }).replied i .ok
        (byte1 limit ++ byte1 (codeOfDetState (s.channel c).state) ++
          maybe1 ((s.channel c).cause.map codeOfFailCause) ++
          (match (s.channel c).occupiedSince with
            | none => []
            | some since => byte2 (s.clock.tenths - since).toNat) ++
          bytesOfNamed (s.channel c).named ++ byte2 (s.channel c).pulses))) ∧
    (∀ c : ChannelId, s.stuckLimit c = none →
      let i := Instr.channelStatus (c.station.val + 1) (c.channel.val + 1)
      exec i s = .next (u.replied i .ok [0xFF#8])) ∧
    exec .statusSummary s = .next ((u.putLink { u.link with overflowFlag := false }).replied .statusSummary .ok
      (byte1 (codeOfMode s.mode.mode) ++ flag1 s.committed.isSome ++ byte1 s.queue.length ++
        maybeIndex s.activeChannel ++ byte2 u.faultBits ++ flag1 u.link.overflowFlag ++
        byte1 u.link.notices.length ++ flag1 u.link.marker ++ byte1 s.link.linkErrors ++ byte1 s.link.overruns ++
        byte4 s.clock.uptime ++ [0#8]))

/-! ### Dimming, sound and flashing -/

/-- DIM (R114): an unknown interval is refused; a target is brought within 1 to 8; at the current level any ramp
ends, at another level a ramp starts or is replaced, its next step one whole interval away; the level never
changes at the request. The marker for "no ramp" in the reply is one byte 0xFF (log entry 11). DIM_RESET (R116)
and a step of the ramp, DIM_RAMP_STEP (R115): the level becomes 1, or moves by 1 toward the target and the ramp
ends there; at a change of the level every dimmable output, and no other, takes the duty of Table 6-3 and
reports the change, and every audible output its effective volume (R113, R120). A step before its moment changes
nothing (log entry 2). -/
def Obligations.LevelsRampAndReachTheOutputs : Prop :=
  (∀ (target : Nat) (s : State), s.free → s.busSettled = true →
     exec (.dim target none) s = .next ((validFrame s).replied (.dim target none) .badIndex []) ∧
     ∀ interval : DimInterval,
       let i := Instr.dim target (some interval)
       let stored := max 1 (min 8 target)
       let left : Nat := match interval with
         | .s2 => 20
         | .s5 => 50
         | .s10 => 100
         | .s30 => 300
       let ramp : Option Ramp := if stored = s.dimming.level then none else some ⟨stored, interval, left⟩
       exec i s = .next (State.replied { validFrame s with dimming := ⟨s.dimming.level, ramp⟩ } i
         (if stored = target then .ok else .clamped)
         ((if stored = target then [] else [1#8]) ++ BitVec.ofNat 8 s.dimming.level ::
           (if stored = s.dimming.level then [0xFF#8]
            else [BitVec.ofNat 8 stored, BitVec.ofNat 8 (codeOfInterval interval)])))) ∧
  (∀ s : State, s.busSettled = true →
     let dimmed (t : State) (level : Nat) : Prop :=
       t.dimming.level = level ∧
       (∀ g c, t.output g c =
         if level ≠ s.dimming.level ∧ ((s.cfg.outputs.get g).get c).dimmable = true then
           { s.output g c with duty := dutyOf level, dutyChanged := true }
         else s.output g c) ∧
       ∀ a, t.audio.get a =
         if level = s.dimming.level then s.audio.get a
         else { s.audio.get a with volume := volumeOf (s.cfg.audio.get a).volume level }
     (s.free → ∃ t, exec .dimReset s = .next t ∧ t.repliedTo .dimReset .ok [1#8] ∧ t.dimming.ramp = none ∧
       dimmed t 1 ∧ ChangesOnly [.dimming, .outputs, .audio, .mode, .monitor, .faults, .link] s t) ∧
     (∀ r, s.dimming.ramp = some r → r.left = 0 → r.target ≠ s.dimming.level →
       let level := if s.dimming.level < r.target then s.dimming.level + 1 else s.dimming.level - 1
       ∃ t, exec .dimRampStep s = .next t ∧ dimmed t level ∧
         t.dimming.ramp = (if level = r.target then none
           else some ⟨r.target, r.interval, intervalTenths r.interval⟩) ∧
         ChangesOnly [.dimming, .outputs, .audio, .link] s t) ∧
     ((∀ r, s.dimming.ramp = some r → r.left ≠ 0) → exec .dimRampStep s = .next s))

/-- FLASH_HALF_BOUNDARY 0.5 s into a half starts the other half: the expected state of every FLASHING output
follows it, its comparison settles anew for 150 ms, and its current is checked 0.2 s into a lit half; no other
output and nothing else changes (R112, R125, R129). CHIRP_END: an output whose chirp has run out takes the
pattern of its group's state by Table 6-6, and nothing else changes (R122, R120). Either before its moment
changes nothing (log entry 2). -/
def Obligations.FlashHalvesAndChirpsEnd : Prop :=
  (∀ s : State, s.busSettled = true →
     (s.flash.ms < 500 → exec .flashHalfBoundary s = .next s) ∧
     (500 ≤ s.flash.ms → ∃ t, exec .flashHalfBoundary s = .next t ∧ t.flash = ⟨!s.flash.lit, 0⟩ ∧
       ChangesOnly [.flash, .outputs, .link] s t ∧
       ∀ g c, t.output g c =
         if (s.output g c).commanded = .flashing then
           { s.output g c with
             expected := !s.flash.lit
             settle := if s.committed.isSome then some 150 else none
             mismatch := none
             checkIn := if !s.flash.lit && s.committed.isSome then some 200 else (s.output g c).checkIn }
         else s.output g c)) ∧
  (∀ (a : AudioId) (s : State), s.busSettled = true →
     ((s.audio.get a).pattern ≠ .chirp ∨ (s.audio.get a).chirpLeft ≠ 0 → exec (.chirpEnd a) s = .next s) ∧
     ((s.audio.get a).pattern = .chirp → (s.audio.get a).chirpLeft = 0 →
       ∃ t, exec (.chirpEnd a) s = .next t ∧ ChangesOnly [.audio, .link] s t ∧
         (∀ b, b ≠ a → t.audio.get b = s.audio.get b) ∧
         (t.audio.get a).volume = (s.audio.get a).volume ∧ (t.audio.get a).chirpLeft = 0 ∧
         (t.audio.get a).pattern = (match (s.cfg.audio.get a).group with
           | none => .silent
           | some g => match (s.groups.get g).state with
             | .red | .prep => .locate
             | .green => .walk
             | .clear | .flash | .off => .silent)))

/-! ### Signs -/

/-- SIGN_WINDOW (R180): the bounds are put in order and then brought within the page, each that changes counting
once; the window takes the page and the bounds, and the pointer its first cell; no cell is written. -/
def Obligations.SignWindowOrdersAndClamps : Prop :=
  ∀ (sign : Nat) (page : Option WritePage) (c0 c1 r0 r1 : Nat) (s : State), s.free → s.busSettled = true →
    let i := Instr.signWindow sign page c0 c1 r0 r1
    (¬(1 ≤ sign ∧ sign ≤ 4) ∨ page = none → exec i s = .next ((validFrame s).replied i .badIndex [])) ∧
    ∀ (n : SignId) (p : WritePage), sign = n.val + 1 → page = some p →
      ((s.cfg.signs.get n).station = none → exec i s = .next ((validFrame s).replied i .badIndex [])) ∧
      ((s.cfg.signs.get n).station ≠ none →
        let width := (s.cfg.signs.get n).width
        let height := (s.cfg.signs.get n).height
        let a := min (min c0 c1) (width - 1)
        let b := min (max c0 c1) (width - 1)
        let c := min (min r0 r1) (height - 1)
        let d := min (max r0 r1) (height - 1)
        let count := (if min c0 c1 = a then 0 else 1) + (if max c0 c1 = b then 0 else 1) +
          (if min r0 r1 = c then 0 else 1) + (if max r0 r1 = d then 0 else 1)
        exec i s = .next (((validFrame s).putSign n { s.signs.get n with window := ⟨p, a, b, c, d, a, c⟩ }).replied i
          (if count = 0 then .ok else .clamped)
          ((if count = 0 then [] else [BitVec.ofNat 8 count]) ++
            [BitVec.ofNat 8 a, BitVec.ofNat 8 b, BitVec.ofNat 8 c, BitVec.ofNat 8 d])))

/-- SIGN_DATA (R181): the cells that the data carry, each brought to the depth's maximum, are written one after
another along the rows of the window from the pointer on, wrapping from its last cell to its first, so that of
two cells written to one place the later stands; no other cell of the page, no other page and no other sign
changes. No data or more than 200 bytes of it are refused with BAD_LENGTH, and a sign outside 1 to 4 or not
configured with BAD_INDEX; neither writes a cell. -/
def Obligations.SignDataFillsTheWindow : Prop :=
  (∀ (sign : Nat) (data : List Byte) (s : State), s.free → s.busSettled = true →
    let i := Instr.signData sign data
    (data = [] ∨ 200 < data.length → exec i s = .next ((validFrame s).replied i .badLength [])) ∧
    (1 ≤ data.length → data.length ≤ 200 →
      (∀ n : SignId, sign = n.val + 1 → (s.cfg.signs.get n).station = none) →
      exec i s = .next ((validFrame s).replied i .badIndex []))) ∧
  ∀ (n : SignId) (data : List Byte) (s : State), s.free → s.busSettled = true → PageLaw s →
    (s.cfg.signs.get n).station ≠ none → 1 ≤ data.length → data.length ≤ 200 →
    let i := Instr.signData (n.val + 1) data
    let c := s.cfg.signs.get n
    let r := s.signs.get n
    let w := r.window
    let cells := cellsOfData c.depth data
    let limit := cellLimitOf c.depth
    let clamped := (cells.filter fun v => limit < v).length
    let columns := w.c1 - w.c0 + 1
    let size := columns * (w.r1 - w.r0 + 1)
    let start := (w.row - w.r0) * columns + (w.col - w.c0)
    let beyond := start + cells.length
    ∃ t, exec i s = .next t ∧ ChangesOnly [.signs, .mode, .monitor, .faults, .link] s t ∧
      t.repliedTo i (if clamped = 0 then .ok else .clamped)
        [BitVec.ofNat 8 cells.length, BitVec.ofNat 8 clamped] ∧
      (∀ m, m ≠ n → t.signs.get m = s.signs.get m) ∧
      (t.signs.get n).active = r.active ∧ (t.signs.get n).showing = r.showing ∧
      (t.signs.get n).transfer = r.transfer ∧ (t.signs.get n).image = r.image ∧
      (t.signs.get n).window = { w with
        col := w.c0 + beyond % size % columns
        row := w.r0 + beyond % size / columns } ∧
      (let page (x : Sign) : List Nat := match w.page with
        | .draft => x.draft
        | .preempt => x.preempt
      let other (x : Sign) : List Nat := match w.page with
        | .draft => x.preempt
        | .preempt => x.draft
      other (t.signs.get n) = other r ∧ (page (t.signs.get n)).length = (page r).length ∧
      ∀ x y, x < c.width → y < c.height →
        (page (t.signs.get n))[y * c.width + x]? =
          if w.c0 ≤ x ∧ x ≤ w.c1 ∧ w.r0 ≤ y ∧ y ≤ w.r1 then
            match (List.range cells.length).reverse.find? fun k =>
                (start + k) % size == (y - w.r0) * columns + (x - w.c0) with
            | some k => some (min limit (cells.getD k 0))
            | none => (page r)[y * c.width + x]?
          else (page r)[y * c.width + x]?)

/-- SIGN_SHOW and SIGN_BLANK (R182): the ACTIVE page becomes the DRAFT page, or dark; when it is the page being
shown that is new content, which starts the transfer, restarts it, marks a restart or suspends it as Table R184
gives by the transfer's state, its station and its transaction in flight; DRAFT, PREEMPT and the window are not
touched. A sign outside 1 to 4 or not configured is refused with BAD_INDEX, and no page is touched. -/
def Obligations.SignShowAndBlankPublish : Prop :=
  (∀ (sign : Nat) (i : Instr) (s : State), s.free → s.busSettled = true → i = .signShow sign ∨ i = .signBlank sign →
    (∀ n : SignId, sign = n.val + 1 → (s.cfg.signs.get n).station = none) →
    exec i s = .next ((validFrame s).replied i .badIndex [])) ∧
  ∀ (n : SignId) (s : State), s.free →
    let r := s.signs.get n
    let started (x : Sign) : Sign := { x with
      transfer := .sending, image := some x.active, imagePage := some .active, chunk := some 0, restart := false }
    let after (x : Sign) : Sign :=
      if x.showing = .preempt then x
      else match x.transfer with
        | .idle => if s.signServed n then started x
          else { x with transfer := .suspended, chunk := some 0, restart := true }
        | .sending => if s.signBusy n then { x with restart := true } else started x
        | .suspended => { x with restart := true }
    ∀ i cells, (i = .signShow (n.val + 1) ∧ cells = r.draft ∨
        i = .signBlank (n.val + 1) ∧ cells = List.replicate r.active.length 0) →
      (s.cfg.signs.get n).station ≠ none →
        ∃ t, exec i s = .next t ∧ t.repliedTo i .ok [] ∧ t.signs = s.signs.set n (after { r with active := cells }) ∧
          ChangesOnly [.signs, .bus, .mode, .monitor, .faults, .link] s t

/-! ### Stations -/

/-- STATION_RESTORE of an OFFLINE station (R156), STATION_CLEAR of a SUSPENDED one (R157), and SIGN_RESUME of a
SUSPENDED transfer whose station is SUSPENDED (R187): the station's record returns to POLLING with score 0, told
by a STATION notice; the FAILED channels of a detector station return to IDLE, each told by a CHANNEL notice
(R168); the transfer of a sign station starts anew at chunk 0, or after a clear goes on from its kept chunk when
no restart is pending. STATION_OFFLINE, or STATION_FAULT or SIGN_FAULT by the kind, and CHANNEL_FAILED of those
channels stand no longer, and an ACTIVE record of each is CLEARED and told. The same
requests for a number that names no station, or no configured sign, are BAD_INDEX, and in any other state
NOT_OFFLINE or NOT_SUSPENDED; nothing changes. -/
def Obligations.StationsReturnToServiceOrRefuse : Prop :=
  (∀ (st : StationId) (i : Instr) (s : State), s.free →
     (i = .stationRestore (st.val + 1) ∧ (s.stations.get st).state = some .offline ∨
       i = .stationClear (st.val + 1) ∧ (s.stations.get st).state = some .suspended ∨
       ∃ n : SignId, i = .signResume (n.val + 1) ∧ (s.cfg.signs.get n).station = some st ∧
         (s.signs.get n).transfer = .suspended ∧ (s.stations.get st).state = some .suspended) →
     ∃ t, exec i s = .next t ∧ t.repliedTo i .ok [] ∧
       t.stations = s.stations.set st { s.stations.get st with
         state := some .polling, score := 0, retries := 0, cycle := 0, warned := false } ∧
       Tells s t (.station st (s.cfg.stations.get st).kind (some .polling) 0
         (if (s.stations.get st).state = some .offline then .restored else .cleared)) ∧
       t.committed = s.committed ∧ t.working = s.working ∧ t.mode.mode = s.mode.mode ∧ t.clock = s.clock ∧
       t.dimming = s.dimming ∧ t.flash = s.flash ∧
       ((s.cfg.stations.get st).kind = .detector → ∀ c : ChannelId, t.channel c =
         if c.station = st ∧ (s.stuckLimit c).isSome = true ∧ (s.channel c).state = .failed then
           { s.channel c with state := .idle, cause := none, named := none }
         else s.channel c) ∧
       ((s.cfg.stations.get st).kind ≠ .detector → t.channels = s.channels ∧ t.groups = s.groups ∧
         t.queue = s.queue ∧ t.demand = s.demand ∧ t.preempt = s.preempt) ∧
       ((s.cfg.stations.get st).kind = .sign → ∀ n, s.signOn st = some n →
         let r := s.signs.get n
         let started : Sign := { r with
           transfer := .sending, image := some (if r.showing = .active then r.active else r.preempt),
           imagePage := some r.showing, chunk := some 0, restart := false }
         t.signs = s.signs.set n (match r.transfer with
           | .idle => if (s.stations.get st).state = some .offline then started else r
           | .suspended => if (s.stations.get st).state = some .offline ∨ r.restart = true then started
             else { r with transfer := .sending }
           | .sending => r)) ∧
       (FaultLaw s →
         let ended (kind : FaultKind) (object : FaultObject) : Prop := t.stands kind object = false ∧
           ∀ r ∈ s.faults, r.kind = kind → r.object = object → r.policy = .report → r.state = .active →
             { r with state := .cleared } ∈ t.faults ∧ Tells s t (.fault { r with state := .cleared })
         ((s.stations.get st).state = some .offline → ended .stationOffline ⟨st.val + 1, 0⟩) ∧
         ((s.stations.get st).state = some .suspended →
           ((s.cfg.stations.get st).kind = .detector → ended .stationFault ⟨st.val + 1, 0⟩) ∧
           ((s.cfg.stations.get st).kind = .sign → ∀ n, s.signOn st = some n →
             ended .signFault ⟨n.val + 1, 0⟩)) ∧
         ((s.cfg.stations.get st).kind = .detector → ∀ c : ChannelId, c.station = st →
           (s.stuckLimit c).isSome = true → (s.channel c).state = .failed →
           ended .channelFailed ⟨st.val + 1, c.channel.val + 1⟩ ∧
             Tells s t (.channel c .idle .recovered (s.channel c).named)))) ∧
  (∀ s : State, s.free → s.busSettled = true →
     let refused (i : Instr) (r : Result) : Prop := exec i s = .next ((validFrame s).replied i r [])
     (∀ n, ¬(1 ≤ n ∧ n ≤ 32) → refused (.stationRestore n) .badIndex ∧ refused (.stationClear n) .badIndex) ∧
     (∀ n, ¬(1 ≤ n ∧ n ≤ 4) → refused (.signResume n) .badIndex) ∧
     (∀ st : StationId,
       ((s.stations.get st).state ≠ some .offline → refused (.stationRestore (st.val + 1)) .notOffline) ∧
       ((s.stations.get st).state ≠ some .suspended → refused (.stationClear (st.val + 1)) .notSuspended)) ∧
     ∀ n : SignId,
       ((s.cfg.signs.get n).station = none → refused (.signResume (n.val + 1)) .badIndex) ∧
       (∀ st, (s.cfg.signs.get n).station = some st →
         ((s.signs.get n).transfer ≠ .suspended ∨ (s.stations.get st).state ≠ some .suspended) →
         refused (.signResume (n.val + 1)) .notSuspended))

/-! ### Faults -/

/-- FAULT_CLEAR (R137): refused, in this order, for an object outside the range of its kind (how the range of a
pair, of a second byte and of a colour is read is the model's, log entry 25), for a local-only kind, and for a
record that is not LATCHED; otherwise the FLASH-policy record of the kind becomes CLEARED, and with the last
such record that is ACTIVE or LATCHED the mode leaves FAIL_FLASH for FLASH (R100). FAULT_RESET (R138): every
LATCHED record, and no other, becomes CLEARED in its place, and the mode leaves FAIL_FLASH for FLASH exactly
when no FLASH-policy record stays ACTIVE. -/
def Obligations.FaultsAreClearedOrRefused : Prop :=
  (∀ (kind : FaultKind) (a b : Nat) (s : State), s.free → s.busSettled = true →
     let i := Instr.faultClear (some kind) a b
     let u := validFrame s
     let refused (r : Result) : Prop := exec i s = .next (u.replied i r [])
     let inRange : Bool := match kind with
       | .conflict => decide (1 ≤ a ∧ a < b ∧ b ≤ 24)
       | .shortClear | .redOut => decide (1 ≤ a ∧ a ≤ 24 ∧ b = 0)
       | .greenMismatch | .outputMismatch | .lampLow | .lampHigh => decide (1 ≤ a ∧ a ≤ 24 ∧ 1 ≤ b ∧ b ≤ 3)
       | .hostSilent => decide (a = 0 ∧ b = 0)
       | .stationOffline | .stationFault => decide (1 ≤ a ∧ a ≤ 32 ∧ b = 0)
       | .channelFailed => decide (1 ≤ a ∧ a ≤ 32 ∧ 1 ≤ b ∧ b ≤ 8)
       | .signFault => decide (1 ≤ a ∧ a ≤ 4 ∧ b = 0)
     exec (.faultClear none a b) s = .next (u.replied (.faultClear none a b) .badIndex []) ∧
     (inRange = false → refused .badIndex) ∧
     (inRange = true →
       (kind = .conflict ∨ kind = .shortClear ∨ kind = .greenMismatch → refused .localOnly) ∧
       (kind ≠ .conflict → kind ≠ .shortClear → kind ≠ .greenMismatch →
         ((∀ r ∈ u.faults, r.kind = kind → r.state ≠ .latched) → refused .notLatched) ∧
         ∀ r, (u.faults.find? fun x => x.kind == kind && x.policy == .flash) = some r → r.state = .latched →
           ∃ t, exec i s = .next t ∧ t.repliedTo i .ok [] ∧
             t.mode.mode = (if s.mode.mode = .failFlash ∧
               (∀ x ∈ u.faults, x.holdsFlash = true → x.kind = kind) then .flash else s.mode.mode) ∧
             (∀ x ∈ t.faults, x.kind = kind → x.policy = .flash → x.state = .cleared) ∧
             t.faults.length = u.faults.length ∧
             Tells s t (.fault { r with state := .cleared })))) ∧
  (∀ s : State, FaultLaw s → ModeLaw s →
     ∃ t, exec .faultReset s = .next t ∧
       t.faults = (s.faults.map fun r => if r.state = .latched then { r with state := .cleared } else r) ∧
       t.monitor.conditions = s.monitor.conditions ∧ t.queue = s.queue ∧ t.demand = s.demand ∧
       t.mode.mode = (if s.mode.mode = .failFlash ∧ ∀ r ∈ s.faults, r.policy = .flash → r.state ≠ .active then .flash
         else s.mode.mode) ∧
       (∀ g, (t.groups.get g).state = (s.groups.get g).state) ∧
       ChangesOnly [.mode, .working, .groups, .outputs, .flash, .audio, .monitor, .faults, .bus, .link] s t)

/-! ### The signal core: requests -/

/-- ENTER is decided by Table 2-4, its rows in order (R31 to R33): each refusal leaves the state as the valid
frame left it; a group that is queued has its entry updated in place, with MERGED and its position; otherwise a
new entry joins the tail, with its position and its override brought within min_green to 250.0 s, and the max
timers of the conflicting ACTUATED greens that are NOT_STARTED start (R61). The last two are stated where
nothing else follows at that moment. -/
def Obligations.EnterIsDecidedByItsTable : Prop :=
  ∀ (group : Nat) (policy : Option Policy) (override : Option Nat) (s : State), s.free → s.busSettled = true →
    let i := Instr.enter group policy override
    let refused (r : Result) : Prop := exec i s = .next ((validFrame s).replied i r [])
    (¬(1 ≤ group ∧ group ≤ 24) ∨ policy = none → refused .badIndex) ∧
    ∀ (g : GroupId) (p : Policy), group = g.val + 1 → policy = some p →
      let stored := override.map fun t => clampTo (s.groupCfg g).minGreen 2500 t
      let merged := s.queue.map fun e => if e.group = g then { e with policy := p, maxOverride := stored } else e
      let joined := s.queue ++ [(⟨g, .host, p, stored, s.clock.tenths⟩ : Entry)]
      if s.kind g = .unused then refused .badIndex
      else if s.mode.mode ≠ .run then refused .wrongMode
      else if s.preempting = true then refused .preempted
      else if (s.groups.get g).inhibit = true then refused .inhibited
      else if (s.groups.get g).state = .prep ∨ (s.groups.get g).state = .green then refused .alreadyGreen
      else if ∃ e ∈ s.queue, e.group = g then
        react { s with queue := merged } = none →
          ∀ older e rest, s.queue = older ++ e :: rest → e.group = g → (∀ o ∈ older, o.group ≠ g) →
            exec i s = .next (((validFrame s).putQueue merged).replied i .merged
              (BitVec.ofNat 8 (older.length + 1) :: maybe2 stored))
      else if 16 ≤ s.queue.length then refused .queueFull
      else
        react { s with queue := joined } = none →
          ∃ t, exec i s = .next t ∧ t.queue = joined ∧
            t.repliedTo i (if stored = override then .ok else .clamped)
              (BitVec.ofNat 8 (s.queue.length + 1) :: maybe2 stored) ∧
            ChangesOnly [.queue, .demand, .mode, .monitor, .faults, .link] s t ∧ t.mode.mode = s.mode.mode ∧
            ∀ j, t.demand.get j =
              match (s.demand.get j).timers with
              | none => s.demand.get j
              | some x =>
                if s.conflicts g j = true ∧ x.elapsed = none then
                  { s.demand.get j with timers := some { x with elapsed := some 0 } }
                else s.demand.get j

/-- An ENTER that finds the queue empty and the five conditions of R42 met is granted at once (R41, R44): the
reply still gives position 1, ENTRY_DONE is told, and the group leaves RED for PREP, or for GREEN where
prep_time is 0 (R10, R11), with its lamps as Table 6-2 gives and no other group's record changed. -/
def Obligations.EnterGrantedAtOnce : Prop :=
  ∀ (g : GroupId) (p : Policy) (override : Option Nat) (s : State), s.free → s.kind g ≠ .unused →
    s.mode.mode = .run → s.calm → (s.groups.get g).inhibit = false → s.queue = [] →
    (s.groups.get g).state = .red → (s.groupCfg g).minRed ≤ (s.groups.get g).redAge →
    (∀ i time, s.intergreen i g = some time → (s.groups.get i).entering = false ∧
      time ≤ (s.groups.get i).greenEndAge + (s.groupCfg g).prepTime) →
    let i := Instr.enter (g.val + 1) (some p) override
    let stored := override.map fun t => clampTo (s.groupCfg g).minGreen 2500 t
    ∃ t, exec i s = .next t ∧ t.queue = [] ∧
      t.repliedTo i (if stored = override then .ok else .clamped) (1#8 :: maybe2 stored) ∧
      Tells s t (.entryDone g .host p .granted) ∧
      t.groups = s.groups.set g (if (s.groupCfg g).prepTime = 0 then
          { s.groups.get g with
            state := .green, prepTimer := 0, greenElapsed := 0, minGreenPassed := false, redAge := 0,
            greenEndAge := 0, policy := some p, maxOverride := stored, leavePending := false }
        else
          { s.groups.get g with
            state := .prep, redAge := 0, prepTimer := 0, policy := some p, maxOverride := stored,
            leavePending := false }) ∧
      (∀ c, (t.output g c).commanded = commandOf (s.kind g) (t.groups.get g).state c) ∧
      t.preempt = s.preempt ∧ t.mode.mode = s.mode.mode ∧ t.committed = s.committed

/-- CANCEL (R34): refused while a channel is in CLEARING, TRACK or DWELL; it removes the group's entry wherever
it stands, without a notice, and is TOO_LATE in PREP or GREEN and NOT_QUEUED otherwise. LEAVE (R18) before the
minimum-green event, or in PREP, is DEFERRED, and without a green it is NOT_GREEN. The removal is stated where
nothing else follows at that moment. -/
def Obligations.CancelAndLeaveAreDecided : Prop :=
  ∀ s : State, s.free → s.busSettled = true →
    let u := validFrame s
    let refused (i : Instr) (r : Result) : Prop := exec i s = .next (u.replied i r [])
    (∀ n, ¬(1 ≤ n ∧ n ≤ 24) → refused (.cancel n) .badIndex ∧ refused (.leave n) .badIndex) ∧
    ∀ g : GroupId,
      let cancel := Instr.cancel (g.val + 1)
      let leave := Instr.leave (g.val + 1)
      let r := s.groups.get g
      let rest := s.queue.filter fun e => !(e.group == g)
      (s.preempting = true → refused cancel .preempted ∧ refused leave .preempted) ∧
      (s.preempting = false → (∃ e ∈ s.queue, e.group = g) → react { s with queue := rest } = none →
        exec cancel s = .next ((u.putQueue rest).replied cancel .ok [])) ∧
      (s.preempting = false → (∀ e ∈ s.queue, e.group ≠ g) →
        refused cancel (if r.state = .prep ∨ r.state = .green then .tooLate else .notQueued)) ∧
      (s.preempting = false → r.state = .prep ∨ r.state = .green ∧ r.minGreenPassed = false →
        exec leave s = .next ((u.putGroup g { r with leavePending := true }).replied leave .deferred [])) ∧
      (s.preempting = false → r.state ≠ .prep → r.state ≠ .green → refused leave .notGreen)

/-- GROUP_FLAGS (R56, R57): an empty list, more than 24 items, an unknown value, a group out of range or UNUSED,
or a group named twice is refused as a whole; otherwise every item sets the flags and acts on the demand of its
own group in the order inhibit, recall, call, and no other group's flags or sources change. -/
def Obligations.GroupFlagsActItemByItem : Prop :=
  ∀ (items : List FlagItem) (s : State), s.free → s.busSettled = true →
    let i := Instr.groupFlags items
    let bad (x : FlagItem) : Prop := ¬(1 ≤ x.group ∧ x.group ≤ 24) ∨ x.inhibit = none ∨ x.recalls = none ∨
      x.call = none ∨ ∃ g : GroupId, x.group = g.val + 1 ∧ s.kind g = .unused
    (items = [] ∨ 24 < items.length ∨ (∃ x ∈ items, bad x) ∨ ¬(items.map FlagItem.group).Nodup →
      exec i s = .next ((validFrame s).replied i .badIndex [])) ∧
    (items ≠ [] → items.length ≤ 24 → (∀ x ∈ items, ¬bad x) → (items.map FlagItem.group).Nodup →
      ∃ t, exec i s = .next t ∧ t.repliedTo i .ok [] ∧
        ChangesOnly [.groups, .demand, .mode, .monitor, .faults, .link] s t ∧ t.mode.mode = s.mode.mode ∧
        ∀ g : GroupId,
          (t.demand.get g).failedRecall = (s.demand.get g).failedRecall ∧
          (t.demand.get g).hold = (s.demand.get g).hold ∧
          ((∀ x ∈ items, x.group ≠ g.val + 1) →
            t.groups.get g = s.groups.get g ∧ (t.demand.get g).sources = (s.demand.get g).sources) ∧
          ∀ (inhibit recalls : FlagChange) (call : CallChange),
            (⟨g.val + 1, some inhibit, some recalls, some call⟩ : FlagItem) ∈ items →
            let flag (c : FlagChange) (b : Bool) : Bool := match c with
              | .set => true
              | .clear => false
              | .leave => b
            let r := s.groups.get g
            let x := (s.demand.get g).sources
            let y : Sources := if recalls = .set ∧ r.recalls = false ∧ r.state ≠ .green then { x with recalls := true }
              else x
            t.groups.get g = { r with inhibit := flag inhibit r.inhibit, recalls := flag recalls r.recalls } ∧
            (t.demand.get g).sources = (match call with
              | .leave => y
              | .latch => { y with host := true }
              | .withdraw => ⟨false, false, y.recalls && flag recalls r.recalls,
                  y.failed && decide (0 < (s.demand.get g).failedRecall)⟩))

/-- PREEMPT_CALL (R72, R75): a channel out of range or an unknown value is refused; the host source becomes what
is asked, and the reply carries the channel's state after the request. A released IDLE channel that is asserted
goes to DELAY in RUN with no higher channel in a sequence, holding every lower DELAY back in PENDING (R82), and
to PENDING otherwise; a PENDING one that is released goes to IDLE; one in CLEARING or TRACK, or in DWELL before
its dwell_min, goes on, and so does every one that its detectors still assert. One released in DELAY goes to
IDLE, its phase timer discarded, and the highest PENDING channel, where R83 lets it, starts at DELAY, or at
CLEARING when it is marked overridden. One released in DWELL past dwell_min exits (R81): it goes to IDLE, its
entries become the host's, its sign shows ACTIVE, and the highest PENDING channel, where R83 lets it, starts at
CLEARING and removes every entry of the host. The cases are stated where nothing else follows at that moment. -/
def Obligations.PreemptCallAssertsAndReleases : Prop :=
  ∀ s : State, s.free →
    (∀ channel value, ¬(1 ≤ channel ∧ channel ≤ 4) ∨ value = none → s.busSettled = true →
      exec (.preemptCall channel value) s = .next ((validFrame s).replied (.preemptCall channel value) .badIndex [])) ∧
    ∀ p : PreemptId,
      let r := s.preempt.get p
      let call (v : CallValue) := Instr.preemptCall (p.val + 1) (some v)
      let busy : Prop := ∃ q : PreemptId, q.val < p.val ∧
        ((s.preempt.get q).working = true ∨ (s.preempt.get q).state = .delay)
      let c := s.cfg.preempt.get p
      let gone : Preempt := { r with host := false, state := .idle, phase := none }
      let starts (q : PreemptId) : Prop := s.mode.mode = .run ∧ (s.preempt.get q).state = .pending ∧
        (∀ x : PreemptId, x ≠ p → (s.preempt.get x).state ≠ .delay) ∧
        ∀ x : PreemptId, x ≠ p → x.val < q.val →
          (s.preempt.get x).state ≠ .pending ∧ (s.preempt.get x).working = false
      (∀ v, ∃ t, exec (call v) s = .next t ∧ (t.preempt.get p).host = decide (v = .assert) ∧
        t.repliedTo (call v) .ok [BitVec.ofNat 8 (codeOfChanState (t.preempt.get p).state)] ∧
        ∀ q, q ≠ p → (t.preempt.get q).host = (s.preempt.get q).host) ∧
      (s.busSettled = true → react s = none →
        (r.state = .idle → r.asserted = false → s.mode.mode ≠ .run ∨ busy →
          ∃ t, exec (call .assert) s = .next t ∧
            ChangesOnly [.preempt, .mode, .monitor, .faults, .link] s t ∧ t.mode.mode = s.mode.mode ∧
            t.preempt = s.preempt.set p { r with host := true, state := .pending } ∧
            Tells s t (.preempt p .pending .asserted r.overridden true 0 0 0 r.truncated)) ∧
        (r.state = .idle → r.asserted = false → s.mode.mode = .run → ¬busy → (s.cfg.preempt.get p).delay ≠ 0 →
          ∃ t, exec (call .assert) s = .next t ∧
            ChangesOnly [.preempt, .mode, .monitor, .faults, .link] s t ∧ t.mode.mode = s.mode.mode ∧
            t.preempt.get p = { r with host := true, state := .delay, phase := some 0 } ∧
            Tells s t (.preempt p .delay .asserted r.overridden true 0 0 0 r.truncated) ∧
            ∀ q, q ≠ p → t.preempt.get q =
              if p.val < q.val ∧ (s.preempt.get q).state = .delay then
                { s.preempt.get q with state := .pending, phase := none }
              else s.preempt.get q) ∧
        (r.state = .pending → r.host = true → r.sources = [] →
          ∃ t, exec (call .release) s = .next t ∧
            ChangesOnly [.preempt, .mode, .monitor, .faults, .link] s t ∧ t.mode.mode = s.mode.mode ∧
            t.preempt = s.preempt.set p { r with host := false, state := .idle, overridden := false } ∧
            Tells s t (.preempt p .idle .released false false 0 0 0 r.truncated)) ∧
        (r.sources ≠ [] ∨ r.state = .clearing ∨ r.state = .track ∨ r.state = .dwell ∧ r.phase.getD 0 < c.dwellMin →
          ∃ t, exec (call .release) s = .next t ∧
            ChangesOnly [.preempt, .mode, .monitor, .faults, .link] s t ∧ t.mode.mode = s.mode.mode ∧
            t.preempt = s.preempt.set p { r with host := false }) ∧
        (r.host = true → r.sources = [] → r.state = .delay →
          ((∀ q, ¬starts q) →
            ∃ t, exec (call .release) s = .next t ∧
              ChangesOnly [.preempt, .mode, .monitor, .faults, .link] s t ∧ t.mode.mode = s.mode.mode ∧
              t.preempt = s.preempt.set p gone ∧
              Tells s t (.preempt p .idle .released r.overridden false 0 0 0 r.truncated)) ∧
          ∀ q, starts q →
            let x := s.preempt.get q
            (x.overridden = false → (s.cfg.preempt.get q).delay ≠ 0 →
              ∃ t, exec (call .release) s = .next t ∧
                ChangesOnly [.preempt, .mode, .monitor, .faults, .link] s t ∧ t.mode.mode = s.mode.mode ∧
                t.preempt = (s.preempt.set p gone).set q { x with state := .delay, phase := some 0 } ∧
                Tells s t (.preempt p .idle .released r.overridden false 0 0 0 r.truncated) ∧
                Tells s t (.preempt q .delay .started false x.host (countCause .occupied x.sources)
                  (countCause .pressed x.sources) (countCause .failed x.sources) x.truncated)) ∧
            (x.overridden = true → x.host = true →
              ∃ t, exec (call .release) s = .next t ∧ t.preempt.get p = gone ∧
                (t.preempt.get q).working = true ∧ (t.preempt.get q).overridden = false ∧
                Tells s t (.preempt p .idle .released r.overridden false 0 0 0 r.truncated))) ∧
        (r.host = true → r.sources = [] → r.state = .dwell → c.dwellMin ≤ r.phase.getD 0 →
          ((∀ q, ¬starts q) →
            let queue := s.queue.map fun e => if e.origin = .preempt p then { e with origin := .host } else e
            react { s with queue := queue, preempt := s.preempt.set p gone } = none →
            ∃ t, exec (call .release) s = .next t ∧ t.queue = queue ∧ t.preempt = s.preempt.set p gone ∧
              Tells s t (.preempt p .idle .exit r.overridden false 0 0 0 r.truncated) ∧
              (∀ n, c.sign = some n → (s.cfg.signs.get n).station ≠ none → (t.signs.get n).showing = .active) ∧
              ChangesOnly [.preempt, .queue, .signs, .bus, .mode, .monitor, .faults, .link] s t ∧
              t.mode.mode = s.mode.mode) ∧
          ∀ q, starts q → (s.preempt.get q).host = true →
            ∃ t, exec (call .release) s = .next t ∧ t.preempt.get p = gone ∧
              (t.preempt.get q).working = true ∧ (t.preempt.get q).overridden = false ∧
              (∀ e ∈ t.queue, e.origin ≠ .host) ∧
              Tells s t (.preempt p .idle .exit r.overridden false 0 0 0 r.truncated)))

/-- MODE_REQUEST (R90, R91, Table 5-3): which requests are refused, which find the mode already on its way, and
what a change of mode leaves: the mode record, the working copy at an entry to CONFIGURE, the order given to the
groups not in PREP, GREEN or CLEAR (R16), and the MODE notice. -/
def Obligations.ModeRequestFollowsItsTable : Prop :=
  ∀ s : State, s.free →
    let u := validFrame s
    let code (m : Mode) : List Byte := [BitVec.ofNat 8 (codeOfMode m)]
    let now := s.mode.mode
    let change (m : Mode) : Option Mode := match now, m with
      | .dark, .configure => some .configure
      | .dark, .run => some .startFlash
      | .dark, .flash => some .flash
      | .configure, .dark => some .dark
      | .configure, .run => some .startFlash
      | .configure, .flash => some .flash
      | .startFlash, .flash => some .flash
      | .startRed, .flash => some .flash
      | .flash, .dark => some .dark
      | .flash, .configure => some .configure
      | .flash, .run => some .startFlash
      | _, _ => none
    let already (m : Mode) : Prop := now = m ∨ (now = .startFlash ∧ m = .run) ∨ (now = .startRed ∧ m = .run) ∨
      (now = .runClosing ∧ m = .flash)
    let target : Mode → Option GroupState
      | .dark => some .off
      | .startFlash | .flash => some .flash
      | _ => none
    (∀ m, m = none ∨ m = some .startFlash ∨ m = some .startRed ∨ m = some .runClosing ∨ m = some .failFlash →
      s.busSettled = true → exec (.modeRequest m) s = .next (u.replied (.modeRequest m) .badIndex [])) ∧
    ∀ m, m = .dark ∨ m = .configure ∨ m = .run ∨ m = .flash →
      let i := Instr.modeRequest (some m)
      (s.busSettled = true →
        (now = .failFlash → exec i s = .next (u.replied i .faultLatched (code .failFlash))) ∧
        (now ≠ .failFlash → s.committed = none → m ≠ .configure →
          exec i s = .next (u.replied i .notConfigured (code now))) ∧
        (now ≠ .failFlash → s.committed.isSome = true ∨ m = .configure →
          (already m → exec i s = .next (u.replied i .ok (code now))) ∧
          (¬already m → change m = none → ¬(now = .run ∧ m = .flash) → ¬(now = .runClosing ∧ m = .run) →
            exec i s = .next (u.replied i .wrongMode (code now))))) ∧
      (s.committed.isSome = true ∨ m = .configure → ∀ x, change m = some x →
        ∃ t, exec i s = .next t ∧ t.repliedTo i .ok (code x) ∧
          t.mode = ⟨x, if x = .configure then some now else none, if x = .startFlash then some 0 else none, none,
            .stopped⟩ ∧
          t.working = (if x = .configure then some s.cfg else none) ∧ t.committed = s.committed ∧
          t.queue = s.queue ∧ t.demand = s.demand ∧ t.preempt = s.preempt ∧ t.dimming = s.dimming ∧
          Tells s t (.mode x now .request s.committed.isSome) ∧
          ∀ g, t.groups.get g =
            match target x with
            | none => s.groups.get g
            | some y =>
              if s.kind g = .unused ∨ (s.groups.get g).serving = true then s.groups.get g
              else { s.groups.get g with state := y, redAge := 0 })

/-- MODE_REQUEST between RUN and RUN_CLOSING (R96, R97, R95): FLASH empties the queue, gives up every sequence,
and ends every green past its minimum with reason CLOSE, while the others go on; the close is at ALL_RED when
every configured group is in RED; and RUN takes a close back, with every channel IDLE and an empty queue,
changing no group. -/
def Obligations.ClosingAndItsReturn : Prop :=
  ∀ s : State, s.free → s.committed.isSome = true →
    (s.mode.mode = .run →
      let i := Instr.modeRequest (some .flash)
      ∃ t, exec i s = .next t ∧ t.repliedTo i .ok [5#8] ∧ t.mode.mode = .runClosing ∧ t.mode.enteredFrom = none ∧
        (t.mode.stage, t.mode.phase) =
          (if ∀ g, s.kind g = .unused ∨ (s.groups.get g).state = .red then (some .allRed, some 0)
           else (some .draining, none)) ∧
        t.queue = [] ∧ t.calm ∧ t.working = none ∧
        Tells s t (.mode .runClosing .run .request true) ∧
        ∀ g, t.groups.get g =
          if (s.groups.get g).state = .green ∧ (s.groups.get g).minGreenPassed = true then
            { s.groups.get g with
              state := .clear, clearTimer := 0, lastReason := some .close, greenElapsed := 0, minGreenPassed := false,
              greenEndAge := 0, policy := none, maxOverride := none, leavePending := false }
          else s.groups.get g) ∧
    (s.mode.mode = .runClosing → s.busSettled = true → s.queue = [] → (∀ p, (s.preempt.get p).state = .idle) →
      let i := Instr.modeRequest (some .run)
      ∃ t, exec i s = .next t ∧ t.repliedTo i .ok [4#8] ∧
        ChangesOnly [.mode, .working, .monitor, .faults, .link] s t ∧
        t.mode = ⟨.run, none, none, none, (validFrame s).mode.silence⟩ ∧ t.working = none ∧
        Tells s t (.mode .run .runClosing .request true))

/-! ### The signal core: moments -/

/-- An end of green (R13, R14, R63): by LEAVE past the minimum (R18), by the gap timer (R60), by the max timer
(R62), or at the minimum-green event by a cause that stands (R9, R19, R96; of several causes which is taken is
free, log entry 7). The group goes to CLEAR with the reason, the green's record is discarded, GREEN_END is told,
the demand keeps its sources and is latched again by recall and by failed channels (R52), and no group changes
but those granted from the queue. Stated with no channel in a sequence. -/
def Obligations.GreensEndWithTheirReason : Prop :=
  ∀ (g : GroupId) (s : State), s.calm → (s.groups.get g).state = .green →
    let r := s.groups.get g
    let d := s.demand.get g
    let x : Sources := { d.sources with
      recalls := d.sources.recalls || r.recalls, failed := d.sources.failed || decide (0 < d.failedRecall) }
    let ended (i : Instr) (reason : Reason) : Prop :=
      ∃ t, exec i s = .next t ∧
        t.groups.get g = { r with
          state := .clear, clearTimer := 0, lastReason := some reason, greenElapsed := 0, minGreenPassed := false,
          greenEndAge := 0, policy := none, maxOverride := none, leavePending := false } ∧
        (t.demand.get g).sources = x ∧ (t.demand.get g).timers = none ∧
        Tells s t (.greenEnd g reason r.policy r.greenElapsed
          (d.timers.map fun m => m.elapsed.isSome) x.latched) ∧
        (∀ c, (t.output g c).commanded = commandOf (s.kind g) .clear c) ∧
        t.preempt = s.preempt ∧ t.mode.mode = s.mode.mode ∧
        ∀ h, h ≠ g → (∀ e ∈ s.queue, e.group ≠ h) → t.groups.get h = s.groups.get h
    (s.free → r.minGreenPassed = true → ended (.leave (g.val + 1)) .leave) ∧
    (∀ m, d.timers = some m → m.gap = .running 0 → r.minGreenPassed = true → ended (.gapExpiry g) .gap) ∧
    (∀ m e, d.timers = some m → m.elapsed = some e → m.limit ≤ e → ended (.maxLimitReached g) .max) ∧
    (r.minGreenPassed = false → (s.groupCfg g).minGreen ≤ r.greenElapsed →
      let leave : Prop := r.leavePending = true
      let gap : Prop := ∃ m, d.timers = some m ∧ m.gap = .expired
      let close : Prop := s.mode.mode = .runClosing
      (leave ∨ gap ∨ close → ∃ reason, ended (.minimumGreenEvent g) reason ∧
        (reason = .leave ∧ leave ∨ reason = .gap ∧ gap ∨ reason = .close ∧ close)) ∧
      (¬leave → ¬gap → ¬close → ∃ t, exec (.minimumGreenEvent g) s = .next t ∧
        t.groups = s.groups.set g { r with minGreenPassed := true } ∧ ChangesOnly [.groups, .bus, .link] s t)) ∧
    (∀ m, d.timers = some m → m.gap = .running 0 → r.minGreenPassed = false → react s = none →
      ∃ t, exec (.gapExpiry g) s = .next t ∧ ChangesOnly [.demand, .bus, .link] s t ∧
        t.demand = s.demand.set g { d with timers := some { m with gap := .expired } })

/-- With no channel in a sequence: PREP_END (R11, R51, R58): the group starts its green; its demand ends, and an ACTUATED green has its gap
timer HOLDING while a channel holds it and running otherwise, its max timer started exactly when a conflicting
group has a demand or an entry, and its limit from the entry's override or max_green. CLEAR_END (R15, R97): the
group is in RED, and in RUN_CLOSING the close is at ALL_RED once every configured group is; no other group
changes but those granted from the queue. With a channel in CLEARING (R79): the PREP_END at which its last track
group becomes GREEN takes it to TRACK; with an empty track list the CLEAR_END after which no group outside its
dwell set is in PREP, GREEN or CLEAR takes it to DWELL, where its dwell groups' entries join the queue (R37,
R80); before that it stays; and a track group that leaves GREEN by MAX is queued again at the head. CLEAR_END is
stated with the red lamp not LOW, and where the measured clearance is not short: none is measured, the red is
not sensed yet, or its length is not below clear_time less 0.2 s (R128, judged here by log entry 12). -/
def Obligations.PrepAndClearEnd : Prop :=
  let unshort (g : GroupId) (s : State) : Prop := s.monitor.clearance.get g = .none ∨
    (s.output g .red).sensed = false ∨
    ∀ ms, s.monitor.clearance.get g = .running ms ∨ s.monitor.clearance.get g = .armed ∧ ms = 0 →
      100 * (s.groupCfg g).clearTime ≤ ms + 200
  (∀ (g : GroupId) (s : State), s.calm →
    let r := s.groups.get g
    let others (t : State) : Prop := t.preempt = s.preempt ∧ t.mode.mode = s.mode.mode ∧
      ∀ h, h ≠ g → (∀ e ∈ s.queue, e.group ≠ h) → t.groups.get h = s.groups.get h
    (r.state = .prep → (s.groupCfg g).prepTime ≤ r.prepTimer → s.conflicts g g = false →
      ∃ t, exec (.prepEnd g) s = .next t ∧ others t ∧
        t.groups.get g = { r with
          state := .green, prepTimer := 0, greenElapsed := 0, minGreenPassed := false, redAge := 0,
          greenEndAge := 0 } ∧
        (∀ c, (t.output g c).commanded = commandOf (s.kind g) .green c) ∧
        (t.demand.get g).sources = ⟨false, false, false, false⟩ ∧ (t.demand.get g).hold = (s.demand.get g).hold ∧
        (r.policy ≠ some .actuated → (t.demand.get g).timers = none) ∧
        (r.policy = some .actuated → ∃ m, (t.demand.get g).timers = some m ∧
          m.gap = (if (s.demand.get g).hold ≠ [] then .holding
            else if (s.groupCfg g).extUnit = 0 then .expired else .running (s.groupCfg g).extUnit) ∧
          (m.elapsed = none ∨ m.elapsed = some 0) ∧
          (m.elapsed = some 0 ↔ ∃ h, s.conflicts h g = true ∧
            ((s.demand.get h).sources.latched = true ∨ ∃ e ∈ s.queue, e.group = h)) ∧
          m.limit = r.maxOverride.getD (s.groupCfg g).maxGreen)) ∧
    (r.state = .clear → (s.groupCfg g).clearTime ≤ r.clearTimer → unshort g s →
      (s.output g .red).health ≠ .low → (∀ e ∈ s.queue, e.group ≠ g) →
      ∃ t, exec (.clearEnd g) s = .next t ∧ others t ∧
        t.groups.get g = { r with state := .red, clearTimer := 0, redAge := 0 } ∧
        (∀ c, (t.output g c).commanded = commandOf (s.kind g) .red c) ∧
        t.monitor.clearance.get g =
          (if (s.output g .red).sensed = true ∧ s.kind g ≠ .unused then .none else s.monitor.clearance.get g) ∧
        (t.faults.filter fun x => x.kind == .shortClear) = (s.faults.filter fun x => x.kind == .shortClear) ∧
        (t.mode.stage, t.mode.phase) =
          if s.mode.mode = .runClosing ∧ s.mode.stage = some .draining ∧
              (∀ h, h = g ∨ s.kind h = .unused ∨ (s.groups.get h).state = .red) then (some .allRed, some 0)
          else (s.mode.stage, s.mode.phase))) ∧
  ∀ (g : GroupId) (p : PreemptId) (s : State), SequenceLaw s → QueueLaw s → (s.preempt.get p).state = .clearing →
    (∀ q, q ≠ p → (s.preempt.get q).state = .idle ∨ (s.preempt.get q).state = .pending) →
    let r := s.groups.get g
    let c := s.cfg.preempt.get p
    let channel := s.preempt.get p
    let becomes (t : State) (y : Preempt) (cause : PreemptCause) : Prop := t.preempt = s.preempt.set p y ∧
      Tells s t (.preempt p y.state cause y.overridden y.host (countCause .occupied y.sources)
        (countCause .pressed y.sources) (countCause .failed y.sources) y.truncated)
    let from' (x : Group) : State := { s with groups := s.groups.set g x }
    (r.state = .prep → (s.groupCfg g).prepTime ≤ r.prepTimer → g ∈ c.track → c.trackTime ≠ 0 →
      (∀ e ∈ s.queue, e.origin = .host) →
      ∃ t, exec (.prepEnd g) s = .next t ∧ t.queue = s.queue ∧
        t.groups = s.groups.set g { r with
          state := .green, prepTimer := 0, greenElapsed := 0, minGreenPassed := false, redAge := 0,
          greenEndAge := 0 } ∧
        ((∀ h ∈ c.track, h ≠ g → (s.groups.get h).state = .green) →
          becomes t { channel with state := .track, phase := some 0 } .trackStart) ∧
        ((∃ h ∈ c.track, h ≠ g ∧ (s.groups.get h).state ≠ .green) → t.preempt = s.preempt)) ∧
    (r.state = .clear → (s.groupCfg g).clearTime ≤ r.clearTimer → unshort g s → (s.output g .red).health ≠ .low →
      c.track = [] → c.dwellMin ≠ 0 → (∀ e ∈ s.queue, e.origin = .host ∨ e.group ∈ c.dwell) →
      let red : Group := { r with state := .red, clearTimer := 0, redAge := 0 }
      ∃ t, exec (.clearEnd g) s = .next t ∧
        (∀ h, h ∉ c.dwell → t.groups.get h = if h = g then red else s.groups.get h) ∧
        ((∀ h, h = g ∨ h ∈ c.dwell ∨ (s.groups.get h).serving = false) →
          becomes t { channel with
            state := .dwell, phase := some 0, sources := channel.sources.filter (fun m => m.2 != .pressed) }
            .dwellStart ∧
          Inserts (from' red) t p ((List.finRange 24).filter fun h => c.dwell.contains h) s.queue) ∧
        ((∃ h, h ≠ g ∧ h ∉ c.dwell ∧ (s.groups.get h).serving = true) → t.preempt = s.preempt)) ∧
    ∀ m e, (s.demand.get g).timers = some m → m.elapsed = some e → m.limit ≤ e → r.state = .green → g ∈ c.track →
      (∀ x ∈ s.queue, x.origin = .host ∨ x.group ∈ c.track ∨ x.group ∈ c.dwell) →
      ∃ t, exec (.maxLimitReached g) s = .next t ∧ t.preempt = s.preempt ∧
        Inserts (from' { r with
          state := .clear, clearTimer := 0, lastReason := some .max, greenElapsed := 0, minGreenPassed := false,
          greenEndAge := 0, policy := none, maxOverride := none, leavePending := false }) t p [g] s.queue

/-- The scan that an age completes, MIN_RED_REACHED and INTERGREEN_BOUND_REACHED (R41, R42, R44): from the head
of the queue the first entry is granted whose group is in RED past min_red, no conflicting group of which is in
PREP or GREEN or has an earlier entry, and every conflicting group of which will have reached its intergreen
time when prep_time has run; and with no such entry nothing is granted. Stated with no channel in a sequence. -/
def Obligations.ScanGrantsTheFirstEntryThatMay : Prop :=
  ∀ (i : Instr) (s : State), s.calm →
    (∃ g, i = .minRedReached g ∧ (s.groups.get g).state = .red ∧ (s.groupCfg g).minRed ≤ (s.groups.get g).redAge) ∨
    (∃ g, i = .intergreenBoundReached g ∧ s.kind g ≠ .unused ∧ (s.groups.get g).state ≠ .green) →
    let may (older : List Entry) (e : Entry) : Prop :=
      s.mode.mode = .run ∧ (s.groups.get e.group).state = .red ∧
      (s.groupCfg e.group).minRed ≤ (s.groups.get e.group).redAge ∧
      (∀ o ∈ older, s.conflicts o.group e.group = false) ∧
      ∀ h time, s.intergreen h e.group = some time →
        (s.groups.get h).state ≠ .prep ∧ (s.groups.get h).state ≠ .green ∧
        time ≤ (s.groups.get h).greenEndAge + (s.groupCfg e.group).prepTime
    ((∀ older e rest, s.queue = older ++ e :: rest → ¬may older e) →
      ∃ t, exec i s = .next t ∧ ChangesOnly [.bus, .link] s t) ∧
    ∀ older e rest, s.queue = older ++ e :: rest → (s.queue.map Entry.group).Nodup → may older e →
      (∀ a o b, older = a ++ o :: b → ¬may a o) →
      ∃ t, exec i s = .next t ∧ Tells s t (.entryDone e.group e.origin e.policy .granted) ∧
        (∀ x ∈ t.queue, x ∈ s.queue ∧ x ≠ e) ∧
        t.groups.get e.group = (if (s.groupCfg e.group).prepTime = 0 then
            { s.groups.get e.group with
              state := .green, prepTimer := 0, greenElapsed := 0, minGreenPassed := false, redAge := 0,
              greenEndAge := 0, policy := some e.policy, maxOverride := e.maxOverride, leavePending := false }
          else
            { s.groups.get e.group with
              state := .prep, redAge := 0, prepTimer := 0, policy := some e.policy, maxOverride := e.maxOverride,
              leavePending := false }) ∧
        (∀ h, (∀ x ∈ s.queue, x.group ≠ h) → t.groups.get h = s.groups.get h) ∧
        t.preempt = s.preempt ∧ t.mode.mode = s.mode.mode

/-- The start and the end of a close (R94, R95, R97): START_FLASH_END enters START_RED with the groups in RED,
START_RED_END enters RUN with the silence timer started and the highest PENDING channel in DELAY, and
CLOSE_ALL_RED_END enters FLASH with the groups in FLASH; each is told by a MODE notice of cause TIMER. Stated
with no red lamp LOW, and for RUN with an empty queue and no channel in a sequence. -/
def Obligations.ModesPassOnByTheirTimers : Prop :=
  ∀ s : State,
    let ordered (t : State) (y : GroupState) : Prop := ∀ g, t.groups.get g =
      if s.kind g = .unused ∨ (s.groups.get g).serving = true then s.groups.get g
      else { s.groups.get g with state := y, redAge := 0 }
    let told (t : State) (after : Mode) : Prop :=
      Tells s t (.mode after s.mode.mode .timer s.committed.isSome)
    (∀ e, s.mode.mode = .startFlash → s.mode.phase = some e → s.cfg.global.startFlash ≤ e →
      (∀ g, (s.output g .red).health ≠ .low) →
      ∃ t, exec .startFlashEnd s = .next t ∧ t.mode = ⟨.startRed, none, some 0, none, .stopped⟩ ∧ ordered t .red ∧
        told t .startRed ∧ t.queue = s.queue ∧ t.demand = s.demand ∧ t.preempt = s.preempt) ∧
    (∀ e, s.mode.mode = .startRed → s.mode.phase = some e → s.cfg.global.startRed ≤ e → s.queue = [] →
      let silence : Silence := if s.cfg.global.silence = 0 then .stopped else .running 0
      ((∀ p, (s.preempt.get p).state = .idle) →
        ∃ t, exec .startRedEnd s = .next t ∧ t.mode = ⟨.run, none, none, none, silence⟩ ∧ told t .run ∧
          ChangesOnly [.mode, .working, .bus, .link] s t) ∧
      ∀ p, s.calm → (s.preempt.get p).state = .pending → (s.preempt.get p).overridden = false →
        (∀ q : PreemptId, q.val < p.val → (s.preempt.get q).state = .idle) → (s.cfg.preempt.get p).delay ≠ 0 →
        ∃ t, exec .startRedEnd s = .next t ∧ t.mode = ⟨.run, none, none, none, silence⟩ ∧ told t .run ∧
          t.preempt = s.preempt.set p { s.preempt.get p with state := .delay, phase := some 0 } ∧
          ChangesOnly [.mode, .working, .preempt, .bus, .link] s t) ∧
    (∀ e, s.mode.mode = .runClosing → s.mode.stage = some .allRed → s.mode.phase = some e →
      s.cfg.global.startRed ≤ e →
      ∃ t, exec .closeAllRedEnd s = .next t ∧ t.mode = ⟨.flash, none, none, none, .stopped⟩ ∧ ordered t .flash ∧
        told t .flash ∧ t.flash = ⟨true, 0⟩ ∧ t.queue = s.queue ∧ t.preempt = s.preempt)

/-- DELAY_END (R76, R77, R78, R82): the channel enters CLEARING: every lower channel in a sequence is displaced,
the host's entries leave the queue, and every green outside its track and dwell sets and past preempt_min is
ended with reason PREEMPT, while the other greens stand. The entries of its track groups in neither PREP nor
GREEN stand at the head of the queue in track order, but for those that the scan grants at this moment (R37,
R41), and an entry that is removed is told CANCELLED_BY_PREEMPT where its group is not granted anew. Its linked sign shows PREEMPT, the
sign of a displaced channel shows ACTIVE unless it is the same, and each switch is new content (R84, R183, R184).
That the notice of the entry carries truncated 0, not
counting the greens ended at that moment, is the model's choice (log entry 36). Stated while a track group is in
CLEAR, which keeps the channel there. -/
def Obligations.DelayEndsInClearing : Prop :=
  ∀ (p : PreemptId) (e : Nat) (g0 : GroupId) (s : State), SequenceLaw s →
    let r := s.preempt.get p
    let c := s.cfg.preempt.get p
    r.state = .delay → r.phase = some e → c.delay ≤ e → g0 ∈ c.track → (s.groups.get g0).state = .clear →
    ∃ t, exec (.delayEnd p) s = .next t ∧
      (t.preempt.get p).state = .clearing ∧ (t.preempt.get p).phase = none ∧ (t.preempt.get p).overridden = false ∧
      (t.preempt.get p).host = r.host ∧ (t.preempt.get p).sources = r.sources ∧
      Tells s t (.preempt p .clearing .delayEnd false r.host (countCause .occupied r.sources)
        (countCause .pressed r.sources) (countCause .failed r.sources) 0) ∧
      (∀ q, q ≠ p → t.preempt.get q =
        if (s.preempt.get q).working = true then
          { s.preempt.get q with
            state := if (s.preempt.get q).asserted then .pending else .idle
            overridden := (s.preempt.get q).asserted
            phase := none }
        else s.preempt.get q) ∧
      (∀ x ∈ t.queue, x.origin ≠ .host) ∧
      (∀ g, (s.groups.get g).state = .green → t.groups.get g =
        if g ∈ c.track ∨ g ∈ c.dwell ∨ (s.groups.get g).greenElapsed < c.preemptMin then s.groups.get g
        else { s.groups.get g with
          state := .clear, clearTimer := 0, lastReason := some .preempt, greenElapsed := 0, minGreenPassed := false,
          greenEndAge := 0, policy := none, maxOverride := none, leavePending := false }) ∧
      (QueueLaw s →
        let leaves (x : Entry) : Bool := match x.origin with
          | .host => true
          | .preempt q => (s.preempt.get q).working
        Inserts s t p c.track (s.queue.filter fun x => !leaves x) ∧
        ∀ x ∈ s.queue, leaves x = true → t.groups.get x.group = s.groups.get x.group →
          Tells s t (.entryDone x.group x.origin x.policy .cancelledByPreempt)) ∧
      ∀ n, (s.cfg.signs.get n).station ≠ none →
        let shows (page : Showing) : Sign :=
          let x := { s.signs.get n with showing := page }
          let started : Sign := { x with
            transfer := .sending, image := some (if page = .active then x.active else x.preempt),
            imagePage := some page, chunk := some 0, restart := false }
          if (s.signs.get n).showing = page then s.signs.get n
          else match x.transfer with
            | .idle => if s.signServed n then started
              else { x with transfer := .suspended, chunk := some 0, restart := true }
            | .sending => if s.signBusy n then { x with restart := true } else started
            | .suspended => { x with restart := true }
        let displaced : Prop :=
          ∃ q, q ≠ p ∧ (s.preempt.get q).working = true ∧ (s.cfg.preempt.get q).sign = some n
        (c.sign = some n → t.signs.get n = shows .preempt) ∧
        (c.sign ≠ some n → displaced → t.signs.get n = shows .active) ∧
        (c.sign ≠ some n → ¬displaced → t.signs.get n = s.signs.get n)

/-- TRACK_END, DWELL_MIN_REACHED and PREEMPT_MIN_REACHED (R80, R81, R78): the channel enters DWELL, its PRESSED
members gone, ending the greens outside its dwell set, with the entries of its dwell groups in neither PREP nor
GREEN at the head of the queue in ascending group number, but for those that the scan grants at this moment
(R37, R41); a released channel past dwell_min becomes IDLE, its
entries becoming the host's and its sign showing ACTIVE; and a green that reaches preempt_min outside the spared
sets is ended with reason PREEMPT. That the notice of the entry to DWELL does not count the greens ended at that
moment is the model's choice (log entry 36). Stated with no other channel in DELAY, and for the exit with every
other channel IDLE. -/
def Obligations.SequencesPassOnByTheirTimers : Prop :=
  ∀ (p : PreemptId) (s : State), SequenceLaw s →
    let r := s.preempt.get p
    let c := s.cfg.preempt.get p
    let ended (g : GroupId) : Group := { s.groups.get g with
      state := .clear, clearTimer := 0, lastReason := some .preempt, greenElapsed := 0, minGreenPassed := false,
      greenEndAge := 0, policy := none, maxOverride := none, leavePending := false }
    (∀ e, r.state = .track → r.phase = some e → c.trackTime ≤ e → c.dwellMin ≠ 0 →
      (∀ q, (s.preempt.get q).state ≠ .delay) →
      ∃ t, exec (.trackEnd p) s = .next t ∧
        (t.preempt.get p).state = .dwell ∧ (t.preempt.get p).phase = some 0 ∧
        (t.preempt.get p).sources = r.sources.filter (fun m => m.2 != .pressed) ∧
        (∀ q, q ≠ p → t.preempt.get q = s.preempt.get q) ∧
        Tells s t (.preempt p .dwell .dwellStart r.overridden r.host (countCause .occupied r.sources) 0
          (countCause .failed r.sources) r.truncated) ∧
        (∀ g, (s.groups.get g).state = .green → t.groups.get g =
          if g ∈ c.dwell ∨ (s.groups.get g).greenElapsed < c.preemptMin then s.groups.get g else ended g) ∧
        (QueueLaw s → Inserts s t p ((List.finRange 24).filter fun g => c.dwell.contains g) s.queue)) ∧
    (∀ e, r.state = .dwell → r.phase = some e → c.dwellMin ≤ e → r.asserted = false →
      (∀ q, q ≠ p → (s.preempt.get q).state = .idle) →
      let queue := s.queue.map fun x => if x.origin = .preempt p then { x with origin := .host } else x
      react { s with queue := queue, preempt := s.preempt.set p { r with state := .idle, phase := none } } = none →
      ∃ t, exec (.dwellMinReached p) s = .next t ∧ t.queue = queue ∧
        t.preempt = s.preempt.set p { r with state := .idle, phase := none } ∧
        Tells s t (.preempt p .idle .exit r.overridden false 0 0 0 r.truncated) ∧
        (∀ n, c.sign = some n → (s.cfg.signs.get n).station ≠ none → (t.signs.get n).showing = .active) ∧
        ChangesOnly [.preempt, .queue, .signs, .bus, .link] s t) ∧
    (∀ g, r.working = true → (s.groups.get g).state = .green → c.preemptMin ≤ (s.groups.get g).greenElapsed →
      g ∉ c.dwell → (g ∈ c.track → r.state = .dwell) →
      ∃ t, exec (.preemptMinReached g) s = .next t ∧ t.groups.get g = ended g ∧
        Tells s t (.greenEnd g .preempt (s.groups.get g).policy (s.groups.get g).greenElapsed
          ((s.demand.get g).timers.map fun m => m.elapsed.isSome)
          (relatched (s.demand.get g).sources (s.groups.get g).recalls (s.demand.get g).failedRecall).latched))

/-! ### The Output Monitor -/

/-- A change of voltage sense (R125, R127, R128). The record of the output takes the sense, and outside its
settle time an agreement ends its disagreement and a disagreement begins or goes on; with a green present, every
conflicting green that is present too is timed; with a green absent, no overlap of its group is timed, and the
clearance of a group in another state than FLASH and OFF is measured, for a PEDESTRIAN from that moment and
otherwise from its amber. The measurement ends at a red sensed present while commanded ON, and at no other red: of
a length of clear_time less 0.2 s or more, armed being 0.0 s, it is discarded, and no SHORT_CLEAR is raised. A
sense that is not new, and before the first commit any, is only taken. What an amber or a red present at the
arming does is the model's reading, log entry 12. -/
def Obligations.SensesAreCompared : Prop :=
  ∀ (g : GroupId) (c : Colour) (present : Bool) (s : State), s.busSettled = true →
    let i := Instr.sensedVoltageChange g c present
    let o := s.output g c
    let after : Output :=
      if o.settle.isSome then { o with sensed := present }
      else if present = o.expected then { o with sensed := present, mismatch := none, standing := false }
      else { o with sensed := present, mismatch := some (o.mismatch.getD 0) }
    let outputs (t : State) (x : Output) : Prop := ∀ h d, t.output h d = if h = g ∧ d = c then x else s.output h d
    let red := s.output g .red
    let idle : Prop := (s.groups.get g).state = .flash ∨ (s.groups.get g).state = .off ∨ s.kind g = .unused
    let unshort (t : State) : Prop :=
      (t.faults.filter fun x => x.kind == .shortClear) = s.faults.filter fun x => x.kind == .shortClear
    (o.sensed = present → ∃ t, exec i s = .next t ∧ ChangesOnly [.link] s t) ∧
    (o.sensed ≠ present → s.committed = none →
      ∃ t, exec i s = .next t ∧ ChangesOnly [.outputs, .link] s t ∧ outputs t { o with sensed := present }) ∧
    (o.sensed ≠ present → s.committed.isSome = true →
      (c ≠ .green → s.monitor.clearance.get g = .none ∨ c = .red ∧ (present = false ∨ o.commanded ≠ .on) ∨
          c = .amber ∧ (present = false ∨ s.monitor.clearance.get g ≠ .armed) →
        ∃ t, exec i s = .next t ∧ ChangesOnly [.outputs, .monitor, .faults, .link] s t ∧ outputs t after ∧
          t.monitor.overlaps = s.monitor.overlaps ∧ t.monitor.clearance = s.monitor.clearance) ∧
      (c = .amber → s.monitor.clearance.get g = .armed → present = true →
        ∃ t, exec i s = .next t ∧ ChangesOnly [.outputs, .monitor, .faults, .link] s t ∧ outputs t after ∧
          t.monitor.overlaps = s.monitor.overlaps ∧
          t.monitor.clearance = s.monitor.clearance.set g (.running 0)) ∧
      (c = .green → present = true →
        ∃ t, exec i s = .next t ∧ ChangesOnly [.outputs, .monitor, .faults, .link] s t ∧ outputs t after ∧
          t.monitor.clearance = s.monitor.clearance ∧
          (∀ x ∈ s.monitor.overlaps, x ∈ t.monitor.overlaps) ∧
          ∀ h, h ≠ g → s.conflicts g h = true → (s.output h .green).sensed = true →
            ∃ x ∈ t.monitor.overlaps, (x.low, x.high) = if g.val < h.val then (g, h) else (h, g)) ∧
      (∀ ms, c = .red → present = true → o.commanded = .on →
        s.monitor.clearance.get g = .running ms ∨ s.monitor.clearance.get g = .armed ∧ ms = 0 →
        100 * (s.groupCfg g).clearTime ≤ ms + 200 →
        ∃ t, exec i s = .next t ∧ ChangesOnly [.outputs, .monitor, .faults, .link] s t ∧ outputs t after ∧
          t.monitor.overlaps = s.monitor.overlaps ∧ t.monitor.clearance = s.monitor.clearance.set g .none ∧
          unshort t ∧ (o.standing = false → t.faults = s.faults ∧ (s.link.sending.isSome = true → t.link = s.link))) ∧
      (c = .green → present = false → red.sensed = false ∨ red.commanded ≠ .on ∨ idle ∨
          100 * (s.groupCfg g).clearTime ≤ 200 →
        ∃ t, exec i s = .next t ∧ ChangesOnly [.outputs, .monitor, .faults, .link] s t ∧ outputs t after ∧
          unshort t ∧ t.monitor.overlaps = s.monitor.overlaps.filter (fun x => x.low != g && x.high != g) ∧
          t.monitor.clearance = s.monitor.clearance.set g
            (if idle ∨ red.sensed = true ∧ red.commanded = .on then .none
             else if s.kind g = .pedestrian ∨ (s.output g .amber).sensed = true then .running 0 else .armed)))

/-- SETTLE_END (R125) compares an output anew; MISMATCH_TIMEOUT of a red or an amber 0.3 s into a disagreement
(R125, R126) makes an OUTPUT_MISMATCH stand and report, with no group and no mode touched; SILENCE_TIMEOUT under
policy REPORT (R104) leaves the silence timer expired and HOST_SILENT recorded, and the mode stays. Each before
its moment changes nothing (log entry 2). -/
def Obligations.DisagreementsAndSilenceAreTimed : Prop :=
  (∀ (g : GroupId) (c : Colour) (s : State), s.busSettled = true →
     let o := s.output g c
     let object : FaultObject := ⟨g.val + 1, match c with
       | .red => 1
       | .amber => 2
       | .green => 3⟩
     let outputs (t : State) (x : Output) : Prop := ∀ h d, t.output h d = if h = g ∧ d = c then x else s.output h d
     (o.settle ≠ some 0 → exec (.settleEnd g c) s = .next s) ∧
     (o.settle = some 0 → ∃ t, exec (.settleEnd g c) s = .next t ∧
       ChangesOnly [.outputs, .monitor, .faults, .link] s t ∧
       outputs t (if o.sensed = o.expected then { o with settle := none, mismatch := none, standing := false }
         else { o with settle := none, mismatch := some (o.mismatch.getD 0) })) ∧
     (∀ ms, o.settle = none → o.mismatch = some ms → 300 ≤ ms → o.standing = false → c ≠ .green →
       s.committed.isSome = true → s.stands .outputMismatch object = false → s.faults.length < 24 →
       (∀ r ∈ s.faults, r.kind ≠ .outputMismatch ∨ r.object ≠ object) →
       let record : FaultRecord :=
         ⟨.outputMismatch, .report, object, .active, s.clock.uptime, s.clock.uptime, 1⟩
       ∃ t, exec (.mismatchTimeout g c) s = .next t ∧ ChangesOnly [.outputs, .monitor, .faults, .link] s t ∧
         outputs t { o with standing := true } ∧ t.faults = s.faults ++ [record] ∧
         t.stands .outputMismatch object = true ∧ Tells s t (.fault record)) ∧
     (∀ ms, o.mismatch = some ms → ms < 300 → exec (.mismatchTimeout g c) s = .next s)) ∧
  (∀ (e : Nat) (s : State), s.busSettled = true → s.mode.silence = .running e →
     (e < 10 * s.cfg.global.silence → exec .silenceTimeout s = .next s) ∧
     (10 * s.cfg.global.silence ≤ e → s.cfg.global.hostSilent = .report → s.committed.isSome = true →
       s.stands .hostSilent ⟨0, 0⟩ = false → s.faults.length < 24 → (∀ r ∈ s.faults, r.kind ≠ .hostSilent) →
       let record : FaultRecord :=
         ⟨.hostSilent, .report, ⟨0, 0⟩, .active, s.clock.uptime, s.clock.uptime, 1⟩
       ∃ t, exec .silenceTimeout s = .next t ∧ ChangesOnly [.mode, .monitor, .faults, .link] s t ∧
         t.mode = { s.mode with silence := .expired } ∧ t.faults = s.faults ++ [record] ∧
         t.stands .hostSilent ⟨0, 0⟩ = true ∧ Tells s t (.fault record)))

/-- The faults that stop the junction (R99, R126, R127, R128, R104): GREEN_MISMATCH 0.3 s into a disagreement of
a green output, CONFLICT 0.2 s into an overlap, SHORT_CLEAR at a red sensed while commanded ON more than 0.2 s
before clear_time has run, from an armed measurement with a length of 0.0 s, and HOST_SILENT under policy FLASH.
That a red already present ends the measurement of a green just found absent, and one that becomes commanded ON
at CLEAR_END, is the model's reading (log entry 12). That the clearance is judged at CLEAR_END before RED_OUT is
examined, so that it is recorded also of a red whose health is LOW under a RED_OUT of policy FLASH, is the model's
choice (log entry 38). With no earlier record of the kind and room in the table, the mode
becomes FAIL_FLASH: the record is told and stands, every configured group is in FLASH, the queue is empty, no
sequence runs and no audible output sounds. -/
def Obligations.FlashFaultsStopTheJunction : Prop :=
  ∀ (i : Instr) (kind : FaultKind) (object : FaultObject) (state : FaultState) (s : State),
    s.committed.isSome = true → s.mode.mode ≠ .failFlash → SequenceLaw s → s.stands kind object = false →
    (∀ r ∈ s.faults, r.kind ≠ kind) → s.faults.length < 24 →
    (∃ g ms, i = .mismatchTimeout g .green ∧ kind = .greenMismatch ∧ object = ⟨g.val + 1, 3⟩ ∧ state = .active ∧
        (s.output g .green).settle = none ∧ (s.output g .green).mismatch = some ms ∧ 300 ≤ ms ∧
        (s.output g .green).standing = false) ∨
    (∃ low high ms, i = .conflictOverlapTimeout low high ∧ kind = .conflict ∧
        object = ⟨low.val + 1, high.val + 1⟩ ∧ state = .active ∧
        (⟨low, high, ms, false⟩ : Overlap) ∈ s.monitor.overlaps ∧ 200 ≤ ms) ∨
    (∃ g ms, kind = .shortClear ∧ object = ⟨g.val + 1, 0⟩ ∧ state = .latched ∧
        ms + 200 < 100 * (s.groupCfg g).clearTime ∧
        (let measured : Prop :=
          s.monitor.clearance.get g = .running ms ∨ s.monitor.clearance.get g = .armed ∧ ms = 0
        i = .sensedVoltageChange g .red true ∧ (s.output g .red).sensed = false ∧
            (s.output g .red).commanded = .on ∧ measured ∨
          i = .sensedVoltageChange g .green false ∧ ms = 0 ∧ (s.output g .green).sensed = true ∧
            (s.output g .red).sensed = true ∧ (s.output g .red).commanded = .on ∧
            (s.groups.get g).state ≠ .flash ∧ (s.groups.get g).state ≠ .off ∧ s.kind g ≠ .unused ∨
          i = .clearEnd g ∧ (s.groups.get g).state = .clear ∧
            (s.groupCfg g).clearTime ≤ (s.groups.get g).clearTimer ∧ (s.output g .red).sensed = true ∧
            s.kind g ≠ .unused ∧ measured)) ∨
    (∃ e, i = .silenceTimeout ∧ kind = .hostSilent ∧ object = ⟨0, 0⟩ ∧ state = .active ∧
        s.mode.silence = .running e ∧ 10 * s.cfg.global.silence ≤ e ∧ s.cfg.global.hostSilent = .flash) →
    let record : FaultRecord := ⟨kind, .flash, object, state, s.clock.uptime, s.clock.uptime, 1⟩
    ∃ t, exec i s = .next t ∧ t.mode = ⟨.failFlash, none, none, none, .stopped⟩ ∧
      record ∈ t.faults ∧ Tells s t (.fault record) ∧
      Tells s t (.mode .failFlash s.mode.mode .fault true) ∧
      t.queue = [] ∧ t.calm ∧ (∀ g, s.kind g ≠ .unused → (t.groups.get g).state = .flash) ∧
      (∀ a, (t.audio.get a).pattern = .silent) ∧ t.committed = s.committed ∧ t.working = none

/-- An occurrence of a fault (R134, R135, R136, R139), at the moments that raise a mismatch, a CONFLICT, a
HOST_SILENT, and at a change of sense a SHORT_CLEAR, of an armed measurement and of a green found absent beside a
red already present too (log entry 12), judged by the policy its kind has now. A record of its key that is ACTIVE counts
it, with no notice; one that is LATCHED or CLEARED becomes ACTIVE in its place and counts it; with none a record
joins the tail, and a full table first loses its oldest CLEARED record, or with none its oldest of policy
REPORT. SHORT_CLEAR, a momentary kind, is LATCHED at the same moment. A record made or changed is told, and
policy FLASH leaves the mode FAIL_FLASH. The whole table is given where no RED_OUT ends with an entry to
FAIL_FLASH. -/
def Obligations.OccurrencesFindTheirRecord : Prop :=
  ∀ (i : Instr) (kind : FaultKind) (object : FaultObject) (s : State), s.committed.isSome = true → FaultLaw s →
    s.stands kind object = false → s.link.sending.isSome = true →
    let code (c : Colour) : Nat := match c with
      | .red => 1
      | .amber => 2
      | .green => 3
    let raised : Bool := match i with
      | .mismatchTimeout g c =>
        kind == (if c = .green then .greenMismatch else .outputMismatch) && object == ⟨g.val + 1, code c⟩ &&
          (s.output g c).settle.isNone && !(s.output g c).standing &&
          (match (s.output g c).mismatch with
            | some ms => decide (300 ≤ ms)
            | none => false)
      | .conflictOverlapTimeout low high =>
        kind == .conflict && object == ⟨low.val + 1, high.val + 1⟩ &&
          s.monitor.overlaps.any (fun o => o.low == low && o.high == high && !o.standing && decide (200 ≤ o.ms))
      | .silenceTimeout => kind == .hostSilent && object == ⟨0, 0⟩ && (match s.mode.silence with
        | .running e => decide (10 * s.cfg.global.silence ≤ e)
        | _ => false)
      | .sensedVoltageChange g .red true =>
        kind == .shortClear && object == ⟨g.val + 1, 0⟩ && !(s.output g .red).sensed &&
          (s.output g .red).commanded == .on && !(s.output g .red).standing &&
          (match s.monitor.clearance.get g with
            | .running ms => decide (ms + 200 < 100 * (s.groupCfg g).clearTime)
            | .armed => decide (200 < 100 * (s.groupCfg g).clearTime)
            | .none => false)
      | .sensedVoltageChange g .green false =>
        kind == .shortClear && object == ⟨g.val + 1, 0⟩ && (s.output g .green).sensed &&
          !(s.output g .green).standing && (s.output g .red).sensed && (s.output g .red).commanded == .on &&
          (s.groups.get g).state != .flash && (s.groups.get g).state != .off && s.kind g != .unused &&
          !s.monitor.overlaps.any (fun o => (o.low == g || o.high == g) && o.standing) &&
          decide (200 < 100 * (s.groupCfg g).clearTime)
      | _ => false
    let policy : FaultPolicy := match kind with
      | .conflict | .shortClear | .greenMismatch => .flash
      | .hostSilent => s.cfg.global.hostSilent
      | _ => .report
    let opened : FaultState := if kind = .shortClear then .latched else .active
    let mine (r : FaultRecord) : Prop := r.kind = kind ∧ r.policy = policy ∧ (policy = .flash ∨ r.object = object)
    let again (r : FaultRecord) (x : FaultState) : FaultRecord :=
      { r with state := x, lastSeen := s.clock.uptime, occurrences := min 255 (r.occurrences + 1) }
    let fresh : FaultRecord := ⟨kind, policy, object, opened, s.clock.uptime, s.clock.uptime, 1⟩
    let whole : Prop := policy = .report ∨ s.mode.mode = .failFlash ∨ ∀ c ∈ s.monitor.conditions, c.kind ≠ .redOut
    raised = true →
      ∃ t, exec i s = .next t ∧ t.mode.mode = (if policy = .flash then .failFlash else s.mode.mode) ∧
        t.stands kind object = (kind != .shortClear) ∧
        (∀ older r rest, s.faults = older ++ r :: rest → mine r →
          (r.state = .active → t.faults = older ++ again r .active :: rest ∧ t.link = s.link) ∧
          (r.state ≠ .active → Tells s t (.fault (again r opened)) ∧ again r opened ∈ t.faults ∧
            (whole → t.faults = older ++ again r opened :: rest))) ∧
        (let joined (l : List FaultRecord) : Prop :=
          Tells s t (.fault fresh) ∧ fresh ∈ t.faults ∧ (whole → t.faults = l ++ [fresh])
        (∀ r ∈ s.faults, ¬mine r) →
          (s.faults.length < 24 → joined s.faults) ∧
          (s.faults.length = 24 →
            (∀ older r rest, s.faults = older ++ r :: rest → r.state = .cleared →
              (∀ x ∈ older, x.state ≠ .cleared) → joined (older ++ rest)) ∧
            ((∀ x ∈ s.faults, x.state ≠ .cleared) → ∀ older r rest, s.faults = older ++ r :: rest →
              r.policy = .report → (∀ x ∈ older, x.policy ≠ .report) → joined (older ++ rest))))

/-- The end of a condition (R135, R139), at a settle end or a change of sense that finds a standing mismatch in
agreement (R125), at an amber's or a green's third current in band (R131), and at a valid frame after
HOST_SILENT (R104): while another instance of its record stands nothing of the table changes; otherwise its
ACTIVE record becomes LATCHED under policy FLASH and CLEARED under REPORT, in its place and told, and a record
that is not ACTIVE, or that has been evicted, changes nothing (R136). The mode stays. RED_OUT (R132) starts at a
red's third LOW current in RED, and at a CLEAR_END with the health LOW already; under policy FLASH its
FAIL_FLASH ends it, so the record stands LATCHED, where no RED_OUT of policy FLASH stands already (RedOutLaw). It
ends when the health leaves LOW, and when the group leaves
RED, as at MODE_REQUEST FLASH in START_RED. -/
def Obligations.ConditionsEndAndRedsGoOut : Prop :=
  (∀ (i : Instr) (kind : FaultKind) (object : FaultObject) (s : State), s.committed.isSome = true → FaultLaw s →
    s.link.sending.isSome = true →
    let code (c : Colour) : Nat := match c with
      | .red => 1
      | .amber => 2
      | .green => 3
    let ended : Bool := match i with
      | .settleEnd g c =>
        kind == (if c = .green then .greenMismatch else .outputMismatch) && object == ⟨g.val + 1, code c⟩ &&
          (s.output g c).settle == some 0 && (s.output g c).sensed == (s.output g c).expected &&
          (s.output g c).standing
      | .sensedVoltageChange g c present =>
        kind == .outputMismatch && object == ⟨g.val + 1, code c⟩ && c != .green &&
          s.monitor.clearance.get g == .none && (s.output g c).sensed != present &&
          (s.output g c).settle.isNone && (s.output g c).expected == present && (s.output g c).standing
      | .currentCheck g c measured =>
        let expected := ((s.cfg.outputs.get g).get c).iNom * (s.output g c).duty
        kind == .lampLow && object == ⟨g.val + 1, code c⟩ && c != .red && (s.output g c).checkIn == some 0 &&
          !(s.output g c).dutyChanged && (s.output g c).health == .low &&
          decide (2 ≤ (s.output g c).bandCount) && decide (expected / 200 ≤ measured) &&
          decide (measured ≤ expected * 3 / 200)
      | _ => kind == .hostSilent && object == ⟨0, 0⟩ && (requestKind i).isSome && s.link.inProcess.isSome
    ended = true → ∀ c ∈ s.monitor.conditions, c.kind = kind → c.object = object →
      let mine (r : FaultRecord) : Prop :=
        r.kind = kind ∧ r.policy = c.policy ∧ (c.policy = .flash ∨ r.object = object)
      let others : Prop := ∃ x ∈ s.monitor.conditions, x ≠ c ∧ x.kind = kind ∧ x.policy = c.policy ∧ c.policy = .flash
      let closed (r : FaultRecord) : FaultRecord :=
        { r with state := if c.policy = .flash then .latched else .cleared }
      ∃ t, exec i s = .next t ∧ t.monitor.conditions = s.monitor.conditions.filter (fun x => x != c) ∧
        t.mode.mode = s.mode.mode ∧
        (∀ older r rest, s.faults = older ++ r :: rest → mine r → r.state = .active → ¬others →
          t.faults = older ++ closed r :: rest ∧ Tells s t (.fault (closed r))) ∧
        (others ∨ (∀ r ∈ s.faults, mine r → r.state ≠ .active) → t.faults = s.faults)) ∧
  (∀ (g : GroupId) (measured : Nat) (s : State), s.committed.isSome = true → FaultLaw s → SequenceLaw s →
    s.kind g = .vehicle →
    let o := s.output g .red
    let expected := ((s.cfg.outputs.get g).get .red).iNom * o.duty
    let low : Prop := measured < expected / 200
    let band : Prop := expected / 200 ≤ measured ∧ measured ≤ expected * 3 / 200
    let object : FaultObject := ⟨g.val + 1, 0⟩
    let policy := s.cfg.global.redOut
    let record (x : FaultState) : FaultRecord := ⟨.redOut, policy, object, x, s.clock.uptime, s.clock.uptime, 1⟩
    let new : Prop := s.faults.length < 23 ∧ ∀ r ∈ s.faults, r.kind ≠ .redOut
    let started (i : Instr) : Prop := ∃ t, exec i s = .next t ∧
      (policy = .report → record .active ∈ t.faults ∧ Tells s t (.fault (record .active)) ∧
        t.stands .redOut object = true ∧ t.mode.mode = s.mode.mode) ∧
      (policy = .flash → s.mode.mode ≠ .failFlash → RedOutLaw s →
        record .latched ∈ t.faults ∧ Tells s t (.fault (record .latched)) ∧ t.stands .redOut object = false ∧ t.mode.mode = .failFlash ∧ (t.groups.get g).state = .flash)
    let stops (i : Instr) : Prop := ∃ t, exec i s = .next t ∧ t.stands .redOut object = false ∧
      ∀ r ∈ s.faults, r.kind = .redOut → r.policy = .report → r.object = object → r.state = .active →
        { r with state := .cleared } ∈ t.faults ∧ Tells s t (.fault { r with state := .cleared })
    let check := Instr.currentCheck g .red measured
    (s.stands .redOut object = false → new → o.checkIn = some 0 → o.dutyChanged = false → o.health ≠ .low →
      2 ≤ o.lowCount → low → (s.groups.get g).state = .red → started check) ∧
    (s.stands .redOut object = false → new → o.health = .low → (s.groups.get g).state = .clear →
      (s.groupCfg g).clearTime ≤ (s.groups.get g).clearTimer → s.calm → s.queue = [] →
      s.monitor.clearance.get g = .none → started (.clearEnd g)) ∧
    (∀ c ∈ s.monitor.conditions, c.kind = .redOut → c.object = object → c.policy = .report →
      (o.checkIn = some 0 → o.dutyChanged = false → o.health = .low → 2 ≤ o.bandCount → band → stops check) ∧
      (s.mode.mode = .startRed → s.free → (s.groups.get g).state = .red → stops (.modeRequest (some .flash)))))

/-- CURRENT_CHECK (R129 to R131): before its moment it leaves the state as it is, the model's choice (log entry
2). At its moment a check after a change of duty is skipped, and any other measurement is classed against I_nom
times the duty, the count of its class rises to at most 3 and the others return to 0, and the third of a class
makes the health; LAMP_LOW and LAMP_HIGH stand as the health gives them when it changes; the next check is 1.0 s
after the one taken while the output is ON (log entry 21). Stated where no RED_OUT of policy FLASH can start. -/
def Obligations.CurrentChecksGiveTheHealth : Prop :=
  ∀ (g : GroupId) (c : Colour) (measured : Nat) (s : State), s.busSettled = true → s.committed.isSome = true →
    FaultLaw s →
    let i := Instr.currentCheck g c measured
    let o := s.output g c
    let object : FaultObject := ⟨g.val + 1, match c with
      | .red => 1
      | .amber => 2
      | .green => 3⟩
    let next : Output := { o with
      checkIn := if o.commanded = .on then some 1000 else none, dutyChanged := false }
    let nominal := ((s.cfg.outputs.get g).get c).iNom * o.duty
    let rise (n : Nat) : Nat := min 3 (n + 1)
    let checked : Output := { next with lastCurrent := some measured }
    let after : Output :=
      if measured < nominal / 200 then
        { checked with
          lowCount := rise o.lowCount, highCount := 0, bandCount := 0
          health := if rise o.lowCount = 3 then .low else o.health }
      else if nominal * 3 / 200 < measured then
        { checked with
          lowCount := 0, highCount := rise o.highCount, bandCount := 0
          health := if rise o.highCount = 3 then .high else o.health }
      else
        { checked with
          lowCount := 0, highCount := 0, bandCount := rise o.bandCount
          health := if rise o.bandCount = 3 then .ok else o.health }
    let outputs (t : State) (x : Output) : Prop := ∀ h d, t.output h d = if h = g ∧ d = c then x else s.output h d
    (o.checkIn ≠ some 0 → exec i s = .next s) ∧
    (o.checkIn = some 0 → o.dutyChanged = true →
      ∃ t, exec i s = .next t ∧ outputs t next ∧ ChangesOnly [.outputs, .link] s t) ∧
    (o.checkIn = some 0 → o.dutyChanged = false →
      c ≠ .red ∨ s.kind g ≠ .vehicle ∨ s.cfg.global.redOut = .report ∨ after.health = o.health →
      ∃ t, exec i s = .next t ∧ outputs t after ∧ ChangesOnly [.outputs, .monitor, .faults, .link] s t ∧
        (after.health ≠ o.health →
          (t.stands .lampLow object = true ↔
            after.health = .low ∨ o.health ≠ .low ∧ s.stands .lampLow object = true) ∧
          (t.stands .lampHigh object = true ↔
            after.health = .high ∨ o.health ≠ .high ∧ s.stands .lampHigh object = true)))

/-! ### The station bus -/

/-- The poll cycle (R145, R146, Table 8-2): CYCLE_BOUNDARY at the end of a poll period makes the poll of every
POLLING station due, of an urgent DEGRADED one too, and of another DEGRADED one at every fourth boundary;
HALF_BOUNDARY at half a period makes the polls of the urgent stations in service due (log entry 34 for one that
has just returned). Each is taken once, and before its moment changes nothing (log entry 2). A free bus is
granted at once (R147), as at RESET_GUARD_END (R161): to the lowest urgent station whose poll is due, else to
the lowest other one, else to the next sign in turn after the one served last that is SENDING on a station in
service, with the chunk at its index or, past the last, the FLIP (R185); else to none. The request frame is that
of Table 12-9, byte for byte: for a CHUNK its index, the depth code and its 64 cells of the image, filled out
with 0 cells (R176). -/
def Obligations.PollsBecomeDueAndTheBusIsGranted : Prop :=
  (∀ s : State,
    (s.committed = none ∨ s.bus.cycleMs < s.cfg.pollPeriod → exec .cycleBoundary s = .next s) ∧
    (s.committed.isSome = true → s.cfg.pollPeriod ≤ s.bus.cycleMs →
      ∃ t, exec .cycleBoundary s = .next t ∧ ChangesOnly [.stations, .bus, .link] s t ∧
        t.bus.cycleMs = 0 ∧ t.bus.halfDone = false ∧ t.bus.guardLeft = s.bus.guardLeft ∧
        ∀ st, t.stations.get st =
          match (s.stations.get st).state with
          | some .polling => { s.stations.get st with due := true }
          | some .degraded =>
            if (s.cfg.stations.get st).urgent = true then { s.stations.get st with due := true }
            else if (s.stations.get st).cycle = 3 then { s.stations.get st with due := true, cycle := 0 }
            else { s.stations.get st with cycle := (s.stations.get st).cycle + 1 }
          | _ => s.stations.get st) ∧
    (s.committed = none ∨ s.bus.halfDone = true ∨ s.bus.cycleMs < s.cfg.pollPeriod / 2 →
      exec .halfBoundary s = .next s) ∧
    (s.committed.isSome = true → s.bus.halfDone = false → s.cfg.pollPeriod / 2 ≤ s.bus.cycleMs →
      ∃ t, exec .halfBoundary s = .next t ∧ ChangesOnly [.stations, .bus, .link] s t ∧
        t.bus.halfDone = true ∧ t.bus.cycleMs = s.bus.cycleMs ∧ t.bus.guardLeft = s.bus.guardLeft ∧
        ∀ st, t.stations.get st =
          if ((s.stations.get st).state = some .polling ∨ (s.stations.get st).state = some .degraded) ∧
              (s.cfg.stations.get st).urgent = true then { s.stations.get st with due := true }
          else s.stations.get st)) ∧
  (∀ s : State, s.bus.transaction = none → s.bus.guardLeft = some 0 →
    ∃ t, exec .resetGuardEnd s = .next t ∧ ChangesOnly [.bus, .link] s t ∧ t.bus.guardLeft = none ∧
      (let due (urgent : Bool) (st : StationId) : Prop :=
        (s.stations.get st).due = true ∧ (s.cfg.stations.get st).urgent = urgent
      let lowest (urgent : Bool) (st : StationId) : Prop :=
        due urgent st ∧ ∀ x : StationId, x.val < st.val → ¬due urgent x
      let ready (n : SignId) : Prop := (s.signs.get n).transfer = .sending ∧ ∃ st,
        (s.cfg.signs.get n).station = some st ∧
          ((s.stations.get st).state = some .polling ∨ (s.stations.get st).state = some .degraded)
      let turn (n : SignId) : Nat := match s.bus.lastServed with
        | none => n.val
        | some x => (n.val + 3 - x.val) % 4
      let frame (st : StationId) (type : Nat) (body : List Byte) : List Byte :=
        let covered : List Byte :=
          [BitVec.ofNat 8 (st.val + 1), BitVec.ofNat 8 (1 + body.length), BitVec.ofNat 8 type] ++ body
        0x5A#8 :: covered ++ word2 (checkOf covered)
      let chunk (n : SignId) (k : Nat) : List Byte :=
        let cell (i : Nat) : Nat := ((s.signs.get n).image.getD []).getD (64 * k + i) 0
        [BitVec.ofNat 8 k, match (s.cfg.signs.get n).depth with
          | .d1 => 1#8
          | .d4 => 4#8
          | .d9 => 9#8] ++
        (List.range 64).flatMap fun i => if (s.cfg.signs.get n).depth = .d9 then byte2 (cell i) else byte1 (cell i)
      let granted (st : StationId) (job : Job) (bytes : List Byte) : Prop :=
        t.bus.transaction = some ⟨st, job, bytes, none, 0, false, false⟩
      (∀ st, lowest true st → t.bus.lastServed = s.bus.lastServed ∧ granted st .poll (frame st 1 [])) ∧
      ((∀ x, ¬due true x) → ∀ st, lowest false st →
        t.bus.lastServed = s.bus.lastServed ∧ granted st .poll (frame st 1 [])) ∧
      ((∀ u x, ¬due u x) →
        (∀ n, ready n → (∀ m, ready m → turn n ≤ turn m) → ∀ st, (s.cfg.signs.get n).station = some st →
          let k := (s.signs.get n).chunk.getD 0
          let count := ((s.cfg.signs.get n).width * (s.cfg.signs.get n).height + 63) / 64
          t.bus.lastServed = some n ∧
            (k < count → granted st (.chunk n k) (frame st 2 (chunk n k))) ∧
            (count ≤ k → granted st (.flip n) (frame st 3 [BitVec.ofNat 8 count]))) ∧
        ((∀ n, ¬ready n) → t.bus.transaction = none ∧ t.bus.lastServed = s.bus.lastServed))))

/-- The reply to a transaction, by its STATUS (R148 to R155, R159, R205): DATA or ACK takes 1 from the score, at 0
no more, and a fall below 128 is told RECOVERED; WAIT opens a new window, four times in a transaction; RETRY
leaves a poll due, twice in turn; FAULT suspends the station; and an error adds 8 to the score, warns from 96 on,
halves the rate from 128 on, and takes the station OFFLINE above 255, each told by a STATION notice. Errors are a
gap, a closed window, a fifth WAIT, a third RETRY, and a reply that is unsound: cut short, with a wrong SYNC or
ADDRESS, a CHECK that differs, an unknown STATUS, a LENGTH of 0 or one that its STATUS does not allow, as DATA of
an odd body or of more than 6 events, ACK in answer to a POLL, or DATA in answer to a CHUNK or FLIP. At a loss
STATION_OFFLINE, or by the kind STATION_FAULT or SIGN_FAULT, stands, with its record where there is room, and
every configured channel of a detector station that is not FAILED becomes FAILED with cause STATION, with its
condition and its CHANNEL notice (R168). STATION_FRAME_SENT opens the window. -/
def Obligations.StationRepliesKeepTheScore : Prop :=
  ∀ (x : Transaction) (ms : Nat) (s : State), s.bus.transaction = some x → x.window = some ms → x.stale = false →
    let st := x.station
    let r := s.stations.get st
    let kind := (s.cfg.stations.get st).kind
    let serves : Prop := r.state = some .polling ∨ r.state = some .degraded
    let address : Byte := BitVec.ofNat 8 (st.val + 1)
    let frame (length status : Byte) (body : List Byte) : List Byte :=
      0xA6#8 :: ([address, length, status] ++ body ++ word2 (checkOf ([address, length, status] ++ body)))
    let reply (status : Byte) : Instr := .stationReply (frame 1#8 status [])
    let due : Bool := if x.job = .poll then false else r.due
    let good : Station :=
      { r with
        score := r.score - 1, retries := 0, due := due
        warned := r.warned && decide (96 ≤ r.score - 1)
        state := if r.state = some .degraded ∧ r.score - 1 < 128 then some .polling else r.state
        cycle := if r.state = some .degraded ∧ r.score - 1 < 128 then 0 else r.cycle }
    let bad : Station :=
      if 255 < r.score + 8 then { r with state := some .offline, score := 255, retries := 0, due := false }
      else
        { r with
          score := r.score + 8, retries := 0, due := due
          warned := r.warned || decide (96 ≤ r.score + 8)
          state := if r.state = some .polling ∧ 128 ≤ r.score + 8 then some .degraded else r.state
          cycle := if r.state = some .polling ∧ 128 ≤ r.score + 8 then 0 else r.cycle }
    let told (t : State) (y : Station) (cause : StationCause) : Prop :=
      Tells s t (.station st kind y.state y.score cause)
    let stands (t : State) (k : FaultKind) (object : FaultObject) : Prop :=
      let record : FaultRecord := ⟨k, .report, object, .active, s.clock.uptime, s.clock.uptime, 1⟩
      t.stands k object = true ∧
        (s.stands k object = false → (∀ y ∈ s.faults, y.kind ≠ k) → s.faults.length < 16 →
          record ∈ t.faults ∧ Tells s t (.fault record))
    let fails (t : State) : Prop := ∀ c : ChannelId,
      let named := selectNamed s.cfg.accept c
      if kind = .detector ∧ c.station = st ∧ (s.stuckLimit c).isSome = true ∧ (s.channel c).state ≠ .failed then
        t.channel c = { s.channel c with
          state := .failed, cause := some .station, occupiedSince := none, named := named } ∧
        t.stands .channelFailed ⟨c.station.val + 1, c.channel.val + 1⟩ = true ∧
        Tells s t (.channel c .failed .station named)
      else t.channel c = s.channel c
    let goods (i : Instr) : Prop := ∃ t, exec i s = .next t ∧ t.stations = s.stations.set st good ∧
      (r.state = some .degraded → r.score - 1 < 128 → told t good .recovered)
    let errs (i : Instr) : Prop := ∃ t, exec i s = .next t ∧ t.stations = s.stations.set st bad ∧
      (r.score + 8 ≤ 255 →
        (r.state = some .polling → 128 ≤ r.score + 8 → told t bad .degraded) ∧
        (r.warned = false → 96 ≤ r.score + 8 → r.state = some .degraded ∨ r.score + 8 < 128 → told t bad .warning)) ∧
      (255 < r.score + 8 → serves → s.committed.isSome = true →
        told t bad .offline ∧ stands t .stationOffline ⟨st.val + 1, 0⟩ ∧ fails t)
    (x.job = .poll → ∀ (length : Byte) (body : List Byte), length.toNat = body.length + 1 → body.length ≤ 12 →
      body.length % 2 = 0 → goods (.stationReply (frame length 0x10#8 body))) ∧
    (x.job ≠ .poll → goods (reply 0x11#8)) ∧
    (x.waits < 4 → ∃ t, exec (reply 0x12#8) s = .next t ∧ ChangesOnly [.bus, .link] s t ∧
      t.bus = { s.bus with transaction := some { x with waits := x.waits + 1, window := some 0 } }) ∧
    (4 ≤ x.waits → errs (reply 0x12#8)) ∧
    (r.retries < 2 → ∃ t, exec (reply 0x13#8) s = .next t ∧
      t.stations = s.stations.set st { r with retries := r.retries + 1 }) ∧
    (2 ≤ r.retries → errs (reply 0x13#8)) ∧
    (let suspended : Station := { r with state := some .suspended, retries := 0, due := false }
     ∃ t, exec (reply 0x14#8) s = .next t ∧ t.stations = s.stations.set st suspended ∧
      (serves → s.committed.isSome = true → told t suspended .suspended ∧ fails t ∧
        (kind = .detector → stands t .stationFault ⟨st.val + 1, 0⟩) ∧
        (kind = .sign → ∀ n, s.signOn st = some n → stands t .signFault ⟨n.val + 1, 0⟩))) ∧
    errs .stationReplyGap ∧
    (8 ≤ ms → errs .replyWindowTimeout) ∧
    (∀ bytes, bytes.length < 6 ∨ bytes[0]? ≠ some 0xA6#8 ∨ bytes[1]? ≠ some address → errs (.stationReply bytes)) ∧
    (∀ bytes length, bytes[2]? = some length → length = 0#8 ∨ bytes.length < length.toNat + 5 →
      errs (.stationReply bytes)) ∧
    (∀ (length status : Byte) (body check : List Byte), length.toNat = body.length + 1 → check.length = 2 →
      check ≠ word2 (checkOf ([address, length, status] ++ body)) →
      errs (.stationReply (0xA6#8 :: ([address, length, status] ++ body ++ check)))) ∧
    (∀ (length status : Byte) (body : List Byte), length.toNat = body.length + 1 →
      (status.toNat < 0x10 ∨ 0x14 < status.toNat) ∨
        status = 0x10#8 ∧ (x.job ≠ .poll ∨ body.length % 2 = 1 ∨ 12 < body.length) ∨
        status ≠ 0x10#8 ∧ body ≠ [] ∨ status = 0x11#8 ∧ x.job = .poll →
      errs (.stationReply (frame length status body))) ∧
    ∀ u : State, u.bus.transaction = some { x with window := none } →
      ∃ t, exec .stationFrameSent u = .next t ∧ ChangesOnly [.bus, .link] u t ∧
        t.bus = { u.bus with transaction := some { x with window := some 0 } }

/-- The outcome of a transaction for a sign (R185, R188), and the loss of a sign's station (R186, R155, R152).
With no restart pending an ACK to a CHUNK raises the chunk index by 1, and an ACK to the FLIP ends the transfer,
told by a SIGN notice of cause FLIPPED; a WAIT, a RETRY or an error that leaves the station in service changes
no sign, and neither does an ACK for a sign that a commit has restarted or made absent (R179). With a restart
pending, any outcome that ends the transaction and leaves the station in service restarts the transfer at chunk
0. An outcome that loses the station, of a poll too, suspends the transfer at its index; a loss by OFFLINE makes
a restart pending. The loss is stated where no sequence moves a sign at that moment; it changes no other sign where
the transaction is a poll or for that sign, and one for another sign, which a commit has moved to another station,
may restart that one (R179, R185). -/
def Obligations.OutcomesMoveTheTransfer : Prop :=
  ∀ (x : Transaction) (n : SignId) (s : State), s.bus.transaction = some x → x.window.isSome = true →
    x.stale = false → (s.cfg.signs.get n).station = some x.station →
    (∀ m, (s.cfg.signs.get m).station = some x.station → m = n) → (s.cfg.stations.get x.station).kind = .sign →
    (s.stations.get x.station).state = some .polling ∨ (s.stations.get x.station).state = some .degraded →
    let r := s.signs.get n
    let station := s.stations.get x.station
    let address : Byte := BitVec.ofNat 8 (x.station.val + 1)
    let reply (status : Byte) : Instr :=
      .stationReply (0xA6#8 :: [address, 1#8, status] ++ word2 (checkOf [address, 1#8, status]))
    let count := ((s.cfg.signs.get n).width * (s.cfg.signs.get n).height + 63) / 64
    let chunk : Prop := ∃ k, x.job = .chunk n k
    let flip : Prop := x.job = .flip n
    let own : Prop := x.job.sign = none ∨ x.job.sign = some n
    let signs (i : Instr) (y : Sign) : Prop := ∃ t, exec i s = .next t ∧ t.signs = s.signs.set n y
    let kept (i : Instr) : Prop := ∃ t, exec i s = .next t ∧ t.signs = s.signs
    let restarts (i : Instr) : Prop := ∃ t, exec i s = .next t ∧
      t.signs = s.signs.set n { r with
        transfer := .sending, image := some (if r.showing = .active then r.active else r.preempt),
        imagePage := some r.showing, chunk := some 0, restart := false } ∧
      Tells s t (.sign n (some x.station) .sending (if r.transfer = .sending then .restarted else .started) r.showing
        (some r.showing) (some 0) count false)
    let suspends (i : Instr) (offline : Bool) : Prop :=
      (r.transfer = .sending → ∃ t, exec i s = .next t ∧
        (let held := { r with transfer := .suspended, restart := r.restart || offline }
         t.signs.get n = held ∧ (own → t.signs = s.signs.set n held)) ∧
        Tells s t (.sign n (some x.station) .suspended .suspended r.showing r.imagePage r.chunk count
          (r.restart || offline))) ∧
      (r.transfer = .suspended ∨ r.transfer = .idle ∧ r.restart = false →
        ∃ t, exec i s = .next t ∧ t.signs.get n = r ∧ (own → t.signs = s.signs))
    (chunk ∨ flip → r.restart = false →
      (x.restartOnly = false → r.transfer = .sending →
        (chunk → signs (reply 0x11#8) { r with chunk := r.chunk.map (· + 1) }) ∧
        (flip → ∃ t, exec (reply 0x11#8) s = .next t ∧
          t.signs = s.signs.set n { r with transfer := .idle, image := none, imagePage := none, chunk := none } ∧
          Tells s t (.sign n (some x.station) .idle .flipped r.showing none none count false))) ∧
      (x.restartOnly = true ∨ r.transfer ≠ .sending → kept (reply 0x11#8)) ∧
      (station.retries < 2 → kept (reply 0x13#8)) ∧
      (station.score + 8 ≤ 255 → kept .stationReplyGap ∧ kept (reply 0x13#8))) ∧
    (x.waits < 4 → kept (reply 0x12#8)) ∧
    (chunk ∨ flip → r.restart = true → restarts (reply 0x11#8) ∧ (station.retries < 2 → restarts (reply 0x13#8)) ∧
      (station.score + 8 ≤ 255 → restarts .stationReplyGap ∧ restarts (reply 0x13#8))) ∧
    (s.calm ∨ react s = none → suspends (reply 0x14#8) false) ∧
    (s.calm ∨ react s = none → 255 < station.score + 8 → suspends .stationReplyGap true)

/-! ### Detector channels -/

/-- One event in the DATA reply to a poll (R164, R165, Table 9-2), and STUCK_LIMIT_EXPIRY (R166, R168): the
record of the channel that the event is of is as the table says, and no other channel changes; a channel that
becomes FAILED names what its first entry for OCCUPY or PRESS names (R167). An event of a channel that is not
configured, or of no channel or kind, changes no channel. -/
def Obligations.DetectorEventsMoveTheirChannel : Prop :=
  ∀ (x : Transaction) (ms : Nat) (n : ChannelNo) (code : Nat) (s : State), s.bus.transaction = some x →
    x.window = some ms → x.stale = false → x.job = .poll →
    let c : ChannelId := ⟨x.station, n⟩
    let r := s.channel c
    let address : Byte := BitVec.ofNat 8 (x.station.val + 1)
    let data (number : Nat) : Instr :=
      let covered : List Byte := [address, 3#8, 0x10#8, BitVec.ofNat 8 number, BitVec.ofNat 8 code]
      .stationReply (0xA6#8 :: covered ++ word2 (checkOf covered))
    let channels (t : State) (y : Channel) : Prop := ∀ d, t.channel d = if d = c then y else s.channel d
    let failed (cause : FailCause) : Channel :=
      { r with state := .failed, cause := some cause, occupiedSince := none, named := selectNamed s.cfg.accept c }
    let after : Channel :=
      match code, r.state with
      | 1, .idle => { r with state := .occupied, occupiedSince := some s.clock.tenths }
      | 2, .occupied => { r with state := .idle, occupiedSince := none }
      | 2, .failed => if r.cause = some .stuck then { r with state := .idle, cause := none, named := none } else r
      | 3, .idle | 3, .occupied => { r with pulses := min 65535 (r.pulses + 1) }
      | 5, .idle | 5, .occupied => failed .chFault
      | 5, .failed => { r with cause := some .chFault }
      | 6, .failed => { r with state := .idle, cause := none, named := none }
      | _, _ => r
    ((s.stuckLimit c).isSome = true → code < 256 →
      ∃ t, exec (data (n.val + 1)) s = .next t ∧ channels t after) ∧
    ((s.stuckLimit c = none ∨ code = 0 ∨ 6 < code) → code < 256 →
      ∃ t, exec (data (n.val + 1)) s = .next t ∧ t.channels = s.channels ∧ t.groups = s.groups ∧
        t.demand = s.demand ∧ t.preempt = s.preempt) ∧
    (∀ number, number = 0 ∨ 8 < number → number < 256 → code < 256 →
      ∃ t, exec (data number) s = .next t ∧ t.channels = s.channels ∧ t.groups = s.groups ∧ t.demand = s.demand) ∧
    ∀ limit since, s.stuckLimit c = some limit → r.occupiedSince = some since → r.state = .occupied → 0 < limit →
      600 * limit ≤ (s.clock.tenths - since).toNat →
      ∃ t, exec (.stuckLimitExpiry c) s = .next t ∧ channels t (failed .stuck) ∧
        Tells s t (.channel c .failed .stuck (selectNamed s.cfg.accept c))

/-- A matched event that names groups (R55, Table 3-3, R170), taken from a DATA reply of one event: the first
entry of the committed table that holds its station, channel and kind applies. On OCCUPY, PULSE and PRESS the
demand of a group becomes LATCHED by DETECTOR under CALL and PED, and under CALL_EXTEND outside GREEN, told by a
DEMAND notice at a change from NONE, which also starts the max timers of conflicting greens (R50, R61, R64). On
OCCUPY the channel joins the hold set under EXTEND and CALL_EXTEND, and in GREEN OCCUPY and PULSE reload the gap
timer (R54, R59). PED on PRESS starts the chirp of the group's audible outputs in RED, PREP and CLEAR (R121). A
VACATE takes the channel out of every hold set, whatever it matches but PREEMPT. UNUSED groups are not touched.
Stated where no green gaps out at the moment and the signal core has nothing left to do. -/
def Obligations.MatchedEventsReachTheirGroups : Prop :=
  ∀ (x : Transaction) (n : ChannelNo) (kind : EventKind) (s : State), s.bus.transaction = some x →
    x.window.isSome = true → x.stale = false → x.job = .poll → react s = none →
    let c : ChannelId := ⟨x.station, n⟩
    let code : Byte := match kind with
      | .occupy => 1#8
      | .vacate => 2#8
      | .pulse => 3#8
      | .press => 4#8
      | .chFault => 5#8
      | .chOk => 6#8
    let covered : List Byte := [BitVec.ofNat 8 (x.station.val + 1), 3#8, 0x10#8, BitVec.ofNat 8 (n.val + 1), code]
    let i := Instr.stationReply (0xA6#8 :: covered ++ word2 (checkOf covered))
    let takes (e : AcceptEntry) : Prop := e.action ≠ .empty ∧ e.first.val ≤ x.station.val ∧
      x.station.val ≤ e.last.val ∧ n ∈ e.channels ∧ kind ∈ e.kinds
    let used (g : GroupId) : Bool := s.kind g != .unused
    let green (g : GroupId) : Bool := (s.groups.get g).state == .green
    let stays (g : GroupId) : Prop := (s.groupCfg g).extUnit ≠ 0 ∨ (s.groups.get g).minGreenPassed = false
    let full (g : GroupId) : GapTimer :=
      if (s.groupCfg g).extUnit = 0 then .expired else .running (s.groupCfg g).extUnit
    ((s.stuckLimit c).isSome = true → (s.channel c).state ≠ .failed →
      kind = .occupy ∨ kind = .pulse ∨ kind = .press →
      ∀ older e rest, s.cfg.accept.cells = older ++ e :: rest → takes e → (∀ y ∈ older, ¬takes y) →
      e.action = .call ∨ e.action = .extend ∨ e.action = .callExtend ∨ e.action = .ped →
      (∀ g ∈ e.groups, stays g ∧ (green g = true → used g = true)) →
      let named (g : GroupId) : Bool := e.groups.contains g && used g
      let extending : Bool := e.action == .extend || e.action == .callExtend
      let latches (g : GroupId) : Bool := named g &&
        (e.action == .call || e.action == .ped || e.action == .callExtend && !green g)
      let joins (g : GroupId) : Bool := named g && extending && kind == .occupy
      let reloads (g : GroupId) : Bool := named g && extending && green g && kind != .press
      let wants (g : GroupId) : Bool := latches g && !(s.demand.get g).sources.latched
      let gap (g : GroupId) (t : GapTimer) : GapTimer :=
        let held := if joins g && (s.demand.get g).hold.isEmpty then GapTimer.holding else t
        if reloads g && held != .holding then full g else held
      ∃ t, exec i s = .next t ∧ t.groups = s.groups ∧ t.queue = s.queue ∧ t.preempt = s.preempt ∧
        (∀ g,
          let d := s.demand.get g
          (t.demand.get g).sources =
            (if latches g then { d.sources with detector := true } else d.sources) ∧
          (t.demand.get g).failedRecall = d.failedRecall ∧
          (t.demand.get g).hold =
            (if joins g = false then d.hold
            else if d.hold.any (fun m => m.1 == c) then d.hold.map fun m => if m.1 = c then (c, .occupied) else m
            else d.hold ++ [(c, .occupied)]) ∧
          (t.demand.get g).timers = d.timers.map (fun y => { y with
            gap := gap g y.gap
            elapsed := if y.elapsed.isNone && (List.finRange 24).any (fun h => wants h && s.conflicts h g) then some 0
              else y.elapsed }) ∧
          (wants g = true → Tells s t (.demand g { d.sources with detector := true }))) ∧
        ∀ a, t.audio.get a =
          if e.action == .ped && kind == .press && e.groups.any (fun g => (s.cfg.audio.get a).group == some g &&
              ((s.groups.get g).state == .red || (s.groups.get g).state == .prep ||
                (s.groups.get g).state == .clear)) then
            { s.audio.get a with
              pattern := .chirp, chirpLeft := if (s.cfg.audio.get a).chirp = .short then 5 else 15, patternMs := 0 }
          else s.audio.get a) ∧
    ((s.stuckLimit c).isSome = true → (s.channel c).state = .occupied → kind = .vacate →
      (∀ e ∈ s.cfg.accept.cells, takes e → e.action ≠ .preempt) → (∀ g, stays g) →
      ∃ t, exec i s = .next t ∧ t.groups = s.groups ∧ t.queue = s.queue ∧ t.preempt = s.preempt ∧
        t.audio = s.audio ∧ ∀ g,
          let d := s.demand.get g
          let hold := d.hold.filter fun m => m != (c, .occupied)
          t.demand.get g = { d with
            hold := hold
            timers := if d.hold ≠ [] ∧ hold = [] then d.timers.map (fun y => { y with gap := full g })
              else d.timers })

/-- A matched event that names a preemption channel (R73, Table 4-3), the FORWARD action (R171) and DISCARD
(R170), taken from a DATA reply of one event. OCCUPY makes the detector channel a member with cause OCCUPIED and
PRESS one with cause PRESSED, but for a PRESS in DWELL; VACATE takes an OCCUPIED or PRESSED member out; no other
kind changes the source. Where no sequence runs, a change between asserted and released moves the channel by
Table 4-4, told by a PREEMPT notice, and any other change moves nothing. FORWARD raises its notice, with merge
count 1, or 1 more than the count of the channel's waiting one, stopping at 255. A DISCARD, or no entry, changes
no demand, group, entry or channel of preemption. Stated where a VACATE takes the channel from no hold set and
the signal core has nothing left to do. -/
def Obligations.MatchedEventsReachPreemptionAndHost : Prop :=
  ∀ (x : Transaction) (n : ChannelNo) (kind : EventKind) (s : State), s.bus.transaction = some x →
    x.window.isSome = true → x.stale = false → x.job = .poll → react s = none → SequenceLaw s →
    let c : ChannelId := ⟨x.station, n⟩
    let code : Byte := match kind with
      | .occupy => 1#8
      | .vacate => 2#8
      | .pulse => 3#8
      | .press => 4#8
      | .chFault => 5#8
      | .chOk => 6#8
    let covered : List Byte := [BitVec.ofNat 8 (x.station.val + 1), 3#8, 0x10#8, BitVec.ofNat 8 (n.val + 1), code]
    let i := Instr.stationReply (0xA6#8 :: covered ++ word2 (checkOf covered))
    let takes (e : AcceptEntry) : Prop := e.action ≠ .empty ∧ e.first.val ≤ x.station.val ∧
      x.station.val ≤ e.last.val ∧ n ∈ e.channels ∧ kind ∈ e.kinds
    let plain : Prop := kind ≠ .chFault ∧ kind ≠ .chOk ∧ (s.channel c).state ≠ .failed ∧
      (kind = .vacate → ∀ g, (c, .occupied) ∉ (s.demand.get g).hold)
    let core (t : State) : Prop := t.demand = s.demand ∧ t.groups = s.groups ∧ t.queue = s.queue
    (s.stuckLimit c).isSome = true →
      (∀ older e rest, s.cfg.accept.cells = older ++ e :: rest → takes e → (∀ y ∈ older, ¬takes y) →
        (e.action = .preempt → plain → ∀ p, e.channel = some p →
          let r := s.preempt.get p
          let joined (cause : SourceCause) : List (ChannelId × SourceCause) :=
            if r.sources.any (fun m => m.1 == c) then r.sources.map fun m => if m.1 = c then (c, cause) else m
            else r.sources ++ [(c, cause)]
          let sources := match kind with
            | .occupy => joined .occupied
            | .press => if r.state = .dwell then r.sources else joined .pressed
            | .vacate => r.sources.filter fun m => m != (c, .occupied) && m != (c, .pressed)
            | _ => r.sources
          let after : Preempt := { r with sources := sources }
          let before : Bool := r.host || !r.sources.isEmpty
          let later : Bool := r.host || !sources.isEmpty
          let moved (t : State) (y : Preempt) (cause : PreemptCause) : Prop :=
            t.preempt = s.preempt.set p y ∧ Tells s t (.preempt p y.state cause y.overridden y.host
              (countCause .occupied y.sources) (countCause .pressed y.sources) (countCause .failed y.sources)
              y.truncated)
          ∃ t, exec i s = .next t ∧
            (before = later →
              core t ∧ t.preempt = s.preempt.set p after) ∧
            (before = false → later = true → r.state = .idle → s.calm →
              (s.mode.mode ≠ .run → core t ∧ moved t { after with state := .pending } .asserted) ∧
              (s.mode.mode = .run → (s.cfg.preempt.get p).delay ≠ 0 →
                core t ∧ moved t { after with state := .delay, phase := some 0 } .asserted)) ∧
            (before = true → later = false → s.calm →
              (r.state = .pending → core t ∧ moved t { after with state := .idle, overridden := false } .released) ∧
              (r.state = .idle → core t ∧ t.preempt = s.preempt.set p after))) ∧
        (e.action = .forward → ∃ t, exec i s = .next t ∧
          (kind = .chFault ∨ kind = .chOk ∨ (s.channel c).state ≠ .failed →
            let count (y : Notice) : Option Nat := match y.body with
              | .forward d _ _ merged => if d = c then some merged else none
              | _ => none
            ((∀ y ∈ s.link.notices, count y = none) → Tells s t (.forward c kind (t.channel c).state 1)) ∧
            ∀ before y behind, s.link.notices = before ++ y :: behind → (∀ z ∈ before, count z = none) →
              ∀ merged, count y = some merged →
                Tells s t (.forward c kind (t.channel c).state (min 255 (merged + 1))))) ∧
        (e.action = .discard → plain → ∃ t, exec i s = .next t ∧ core t ∧ t.preempt = s.preempt ∧
          t.audio = s.audio)) ∧
      ((∀ e ∈ s.cfg.accept.cells, ¬takes e) → plain → ∃ t, exec i s = .next t ∧ core t ∧
        t.preempt = s.preempt ∧ t.audio = s.audio)

/-- A detector channel that fails, at STUCK_LIMIT_EXPIRY or at a CH_FAULT event, and one that recovers, at CH_OK
(R167, R168). The failure names what the first entry of the committed table for its channel and OCCUPY or PRESS
gives: the groups of CALL, EXTEND, CALL_EXTEND and PED, the preemption channel of PREEMPT, and nothing
otherwise. The failed_recall of each group named rises by 1, from 0 outside GREEN latching FAILED, and the
channel joins its hold set with cause FAILED in one step; it leaves every other hold set (R53, R54, R59). A
channel of preemption named takes it as a member with cause FAILED where fail_assert is set and loses it
otherwise (R74), moving by Table 4-4. CHANNEL_FAILED stands and a CHANNEL notice tells it. A recovery takes back
what the failure named. Stated for groups that are configured (R172), where no green gaps out at the moment, no
sequence runs, and the signal core has nothing left to do. -/
def Obligations.FailuresStandInForTheirChannel : Prop :=
  ∀ (c : ChannelId) (s : State), (s.stuckLimit c).isSome = true → s.committed.isSome = true → s.calm →
    SequenceLaw s → react s = none → FaultLaw s →
    (∀ g, (s.groupCfg g).extUnit ≠ 0 ∨ (s.groups.get g).minGreenPassed = false) →
    (∀ p, (s.cfg.preempt.get p).delay ≠ 0) →
    let object : FaultObject := ⟨c.station.val + 1, c.channel.val + 1⟩
    let event (code : Byte) : Instr :=
      let covered : List Byte :=
        [BitVec.ofNat 8 (c.station.val + 1), 3#8, 0x10#8, BitVec.ofNat 8 (c.channel.val + 1), code]
      .stationReply (0xA6#8 :: covered ++ word2 (checkOf covered))
    let polled : Bool := match s.bus.transaction with
      | some x => x.station == c.station && x.window.isSome && !x.stale && x.job == .poll
      | none => false
    let full (g : GroupId) : GapTimer :=
      if (s.groupCfg g).extUnit = 0 then .expired else .running (s.groupCfg g).extUnit
    let gap (g : GroupId) (hold : List (ChannelId × HoldCause)) (t : GapTimer) : GapTimer :=
      if (s.demand.get g).hold = [] ∧ hold ≠ [] then .holding
      else if (s.demand.get g).hold ≠ [] ∧ hold = [] then full g else t
    let sourced (t : State) (p : PreemptId) (sources : List (ChannelId × SourceCause)) : Prop :=
      let r := s.preempt.get p
      let before := r.host || !r.sources.isEmpty
      let after := r.host || !sources.isEmpty
      t.preempt = s.preempt.set p
        (if before = false ∧ after = true ∧ r.state = .idle then
          if s.mode.mode = .run then { r with sources := sources, state := .delay, phase := some 0 }
          else { r with sources := sources, state := .pending }
        else if before = true ∧ after = false ∧ r.state = .pending then
          { r with sources := sources, state := .idle, overridden := false }
        else { r with sources := sources })
    let serves (e : AcceptEntry) : Prop := e.action ≠ .empty ∧ e.first.val ≤ c.station.val ∧
      c.station.val ≤ e.last.val ∧ c.channel ∈ e.channels ∧ (.occupy ∈ e.kinds ∨ .press ∈ e.kinds)
    let grouped (e : AcceptEntry) : Prop :=
      e.action = .call ∨ e.action = .extend ∨ e.action = .callExtend ∨ e.action = .ped
    let fails (i : Instr) (cause : FailCause) (told : ChannelCause) (list : List GroupId)
        (channel : Option PreemptId) (named : Option Named) : Prop :=
      (∀ g ∈ list, s.kind g ≠ .unused) → list.Nodup →
      let hold (g : GroupId) : List (ChannelId × HoldCause) :=
        let old := (s.demand.get g).hold
        if g ∈ list then
          if old.any (fun m => m.1 == c) then old.map fun m => if m.1 = c then (c, .failed) else m
          else old ++ [(c, .failed)]
        else old.filter fun m => m != (c, .occupied)
      let latches (g : GroupId) : Bool := list.contains g && (s.demand.get g).failedRecall == 0 &&
        (s.groups.get g).state != .green
      let wants (g : GroupId) : Bool := latches g && !(s.demand.get g).sources.latched
      ∃ t, exec i s = .next t ∧ t.groups = s.groups ∧ t.queue = s.queue ∧
        t.channel c = { s.channel c with
          state := .failed, cause := some cause, occupiedSince := none, named := named } ∧
        t.stands .channelFailed object = true ∧ Tells s t (.channel c .failed told named) ∧
        (∀ g,
          let d := s.demand.get g
          t.demand.get g = {
            sources := if latches g then { d.sources with failed := true } else d.sources
            failedRecall := if g ∈ list then d.failedRecall + 1 else d.failedRecall
            hold := hold g
            timers := d.timers.map fun y => { y with
              gap := gap g (hold g) y.gap
              elapsed :=
                if y.elapsed.isNone && (List.finRange 24).any (fun h => wants h && s.conflicts h g) then some 0
                else y.elapsed } } ∧
          (wants g = true → Tells s t (.demand g { d.sources with failed := true }))) ∧
        (channel = none → t.preempt = s.preempt) ∧
        ∀ p, channel = some p → sourced t p
          (let old := (s.preempt.get p).sources
          if (s.cfg.preempt.get p).failAssert = false then old.filter fun m => m.1 != c
          else if old.any (fun m => m.1 == c) then old.map fun m => if m.1 = c then (c, .failed) else m
          else old ++ [(c, .failed)])
    let both (list : List GroupId) (channel : Option PreemptId) (named : Option Named) : Prop :=
      (s.stuck c = true → fails (.stuckLimitExpiry c) .stuck .stuck list channel named) ∧
      (polled = true → (s.channel c).state ≠ .failed →
        fails (event 5#8) .chFault .chFault list channel named)
    (∀ older e rest, s.cfg.accept.cells = older ++ e :: rest → serves e → (∀ y ∈ older, ¬serves y) →
      (grouped e → both e.groups none (some (.groups e.groups))) ∧
      (e.action = .preempt → both [] e.channel (e.channel.map .channel)) ∧
      (e.action = .forward ∨ e.action = .discard → both [] none none)) ∧
    ((∀ e ∈ s.cfg.accept.cells, ¬serves e) → both [] none none) ∧
    (polled = true → (s.channel c).state = .failed →
      let named := (s.channel c).named
      let list := match named with
        | some (.groups l) => l
        | _ => []
      let channel := match named with
        | some (.channel p) => some p
        | _ => none
      list.Nodup →
      let hold (g : GroupId) : List (ChannelId × HoldCause) :=
        if g ∈ list then (s.demand.get g).hold.filter fun m => m != (c, .failed) else (s.demand.get g).hold
      ∃ t, exec (event 6#8) s = .next t ∧ t.groups = s.groups ∧ t.queue = s.queue ∧
        t.channel c = { s.channel c with state := .idle, cause := none, named := none } ∧
        t.stands .channelFailed object = false ∧ Tells s t (.channel c .idle .chOk named) ∧
        (∀ g,
          let d := s.demand.get g
          t.demand.get g = { d with
            failedRecall := if g ∈ list then d.failedRecall - 1 else d.failedRecall
            hold := hold g
            timers := d.timers.map fun y => { y with gap := gap g (hold g) y.gap } }) ∧
        (channel = none → t.preempt = s.preempt) ∧
        ∀ p, channel = some p → sourced t p ((s.preempt.get p).sources.filter fun m => m != (c, .failed)))

/-! ### Laws that every step keeps -/

/-- Every step keeps the host link's law: at most 64 notices of different keys wait, the counts stop at 255, a
frame is held only behind a request in process, a reply has begun exactly while it is on the line, and the line
is free only when nothing waits for it (R192, R193, R196, R197). -/
def Obligations.EveryStepKeepsTheLinkLaw : Prop := ∀ s t : State, LinkLaw s → step s = .next t → LinkLaw t

/-- Every step keeps the fault table's law: at most 24 records of different keys, ACTIVE only while a condition
stands, and FAIL_FLASH exactly while a record of policy FLASH is ACTIVE or LATCHED (R99, R100, R134 to R138); and,
with the groups in the states of their mode, no RED_OUT condition of policy FLASH stands between steps (R132). -/
def Obligations.EveryStepKeepsTheFaultLaw : Prop :=
  (∀ s t : State, FaultLaw s → step s = .next t → FaultLaw t) ∧
  (∀ s t : State, FaultLaw s → ModeLaw s → RedOutLaw s → step s = .next t → RedOutLaw t)

/-- Every step keeps the groups in the states of their mode (R16, R17, R92 to R99); with that, a policy exactly
in PREP and GREEN, and the timers of an ACTUATED green exactly in one (R12, R58, R63); and every lamp output
commanded as Table 6-2 gives for the kind and state of its group (R107, R110, R111). -/
def Obligations.EveryStepKeepsTheModeAndLampLaws : Prop :=
  (∀ s t : State, ModeLaw s → step s = .next t → ModeLaw t ∧ (GreenLaw s → GreenLaw t)) ∧
  (∀ s t : State, LampLaw s → step s = .next t → LampLaw t)

/-- Every step keeps conflicting groups apart: no two of them are ever in PREP or GREEN together, and the
committed matrix stays symmetric with an empty diagonal (R25, R27, R42, R103). -/
def Obligations.EveryStepKeepsConflictingGroupsApart : Prop :=
  ∀ s t : State, ConflictLaw s → step s = .next t → ConflictLaw t

/-- Every step keeps at most one channel in CLEARING, TRACK or DWELL, none above a DELAY at work, and nothing
queued or in a sequence outside RUN (R39, R82, R85); and no group queued twice or queued while it is in PREP or
GREEN (R30, R32, R37). -/
def Obligations.EveryStepKeepsTheSequenceAndQueueLaws : Prop :=
  ∀ s t : State, step s = .next t → (SequenceLaw s → SequenceLaw t) ∧ (QueueLaw s → QueueLaw t)

/-- Every step keeps the stations' records lawful: the score with its state and its warning, at most two
retries, a poll due only in service, and a transaction in flight only for a station in service (R143, R146,
R147, R151, R154). -/
def Obligations.EveryStepKeepsTheStationLaw : Prop := ∀ s t : State, StationLaw s → step s = .next t → StationLaw t

/-- Every step keeps the pages of the signs within their geometry and depth, and the pointer in its window
(R176, R179 to R182); and a cause of failure, a start of occupancy and a name exactly where Table 9-1 gives a
detector channel one. -/
def Obligations.EveryStepKeepsThePageAndChannelLaws : Prop :=
  ∀ s t : State, step s = .next t → (PageLaw s → PageLaw t) ∧ (ChannelLaw s → ChannelLaw t)

/-- The laws hold right after a power-on reset. -/
def Obligations.LawsHoldAtReset : Prop :=
  LinkLaw State.reset ∧ FaultLaw State.reset ∧ RedOutLaw State.reset ∧ ModeLaw State.reset ∧ ConflictLaw State.reset ∧
    SequenceLaw State.reset ∧ QueueLaw State.reset ∧ LampLaw State.reset ∧ GreenLaw State.reset ∧
    StationLaw State.reset ∧ PageLaw State.reset ∧ ChannelLaw State.reset
end

