-- ==== Sys2Proof/Laws/Bank.lean ====
section
/-! SUPPORT. Laws/Bank.lean: reading a bank after each of its operations. -/

namespace Sys2Proof

variable {n : Nat} {α β : Type}

@[simp] theorem Bank.get_set_same (b : Bank n α) (i : Fin n) (a : α) : (b.set i a).get i = a := by
  simp [Bank.get, Bank.set]

theorem Bank.get_set_other (b : Bank n α) (i j : Fin n) (a : α) (h : i ≠ j) : (b.set i a).get j = b.get j := by
  have h' : i.val ≠ j.val := fun e => h (Fin.ext e)
  simp [Bank.get, Bank.set, h']

theorem Bank.get_set (b : Bank n α) (i j : Fin n) (a : α) :
    (b.set i a).get j = if i = j then a else b.get j := by
  by_cases h : i = j
  · subst h; simp
  · simp [h, Bank.get_set_other]

@[simp] theorem Bank.get_tab (f : Fin n → α) (i : Fin n) : (Bank.tab f).get i = f i := by
  simp [Bank.get, Bank.tab]

@[simp] theorem Bank.get_map (b : Bank n α) (f : α → β) (i : Fin n) : (b.map f).get i = f (b.get i) := by
  simp [Bank.get, Bank.map]

@[simp] theorem Bank.get_mapAt (b : Bank n α) (f : Fin n → α → β) (i : Fin n) :
    (b.mapAt f).get i = f i (b.get i) := by
  simp [Bank.mapAt]

@[simp] theorem Bank.get_fill (a : α) (i : Fin n) : (Bank.fill n a).get i = a := by
  simp [Bank.get, Bank.fill]

theorem Bank.get_upd (b : Bank n α) (i j : Fin n) (f : α → α) :
    (b.upd i f).get j = if i = j then f (b.get i) else b.get j := by
  simp [Bank.upd, Bank.get_set]

@[simp] theorem Bank.get_upd_same (b : Bank n α) (i : Fin n) (f : α → α) : (b.upd i f).get i = f (b.get i) := by
  simp [Bank.upd]

/-- Two banks with the same record at every position are equal. -/
theorem Bank.ext_get {b c : Bank n α} (h : ∀ i, b.get i = c.get i) : b = c := by
  cases b with
  | mk l hl =>
    cases c with
    | mk m hm =>
      have : l = m := by
        apply List.ext_getElem
        · omega
        · intro i h1 h2
          exact h ⟨i, by omega⟩
      subst this; rfl

/-- Writing back the record that stands there changes nothing. -/
@[simp] theorem Bank.set_get (b : Bank n α) (i : Fin n) : b.set i (b.get i) = b := by
  apply Bank.ext_get
  intro j
  rw [Bank.get_set]
  split
  · next h => rw [h]
  · rfl

end Sys2Proof
end

