-- ==== Sys2Proof/Laws/State.lean ====
section
/-! SUPPORT. Laws/State.lean: each field of the state after each of its updates. -/

namespace Sys2Proof.Machine

variable (s : State)

/-! ### putGroup -/

@[simp] theorem State.putGroup_clock (g : GroupId) (r : Group) : (s.putGroup g r).clock = s.clock := rfl
@[simp] theorem State.putGroup_mode (g : GroupId) (r : Group) : (s.putGroup g r).mode = s.mode := rfl
@[simp] theorem State.putGroup_committed (g : GroupId) (r : Group) : (s.putGroup g r).committed = s.committed := rfl
@[simp] theorem State.putGroup_working (g : GroupId) (r : Group) : (s.putGroup g r).working = s.working := rfl
@[simp] theorem State.putGroup_groups (g : GroupId) (r : Group) : (s.putGroup g r).groups = s.groups.set g r := rfl
@[simp] theorem State.putGroup_queue (g : GroupId) (r : Group) : (s.putGroup g r).queue = s.queue := rfl
@[simp] theorem State.putGroup_demand (g : GroupId) (r : Group) : (s.putGroup g r).demand = s.demand := rfl
@[simp] theorem State.putGroup_preempt (g : GroupId) (r : Group) : (s.putGroup g r).preempt = s.preempt := rfl
@[simp] theorem State.putGroup_outputs (g : GroupId) (r : Group) : (s.putGroup g r).outputs = s.outputs := rfl
@[simp] theorem State.putGroup_dimming (g : GroupId) (r : Group) : (s.putGroup g r).dimming = s.dimming := rfl
@[simp] theorem State.putGroup_flash (g : GroupId) (r : Group) : (s.putGroup g r).flash = s.flash := rfl
@[simp] theorem State.putGroup_audio (g : GroupId) (r : Group) : (s.putGroup g r).audio = s.audio := rfl
@[simp] theorem State.putGroup_monitor (g : GroupId) (r : Group) : (s.putGroup g r).monitor = s.monitor := rfl
@[simp] theorem State.putGroup_faults (g : GroupId) (r : Group) : (s.putGroup g r).faults = s.faults := rfl
@[simp] theorem State.putGroup_stations (g : GroupId) (r : Group) : (s.putGroup g r).stations = s.stations := rfl
@[simp] theorem State.putGroup_bus (g : GroupId) (r : Group) : (s.putGroup g r).bus = s.bus := rfl
@[simp] theorem State.putGroup_channels (g : GroupId) (r : Group) : (s.putGroup g r).channels = s.channels := rfl
@[simp] theorem State.putGroup_signs (g : GroupId) (r : Group) : (s.putGroup g r).signs = s.signs := rfl
@[simp] theorem State.putGroup_link (g : GroupId) (r : Group) : (s.putGroup g r).link = s.link := rfl
@[simp] theorem State.putGroup_choices (g : GroupId) (r : Group) : (s.putGroup g r).choices = s.choices := rfl
@[simp] theorem State.putGroup_pending (g : GroupId) (r : Group) : (s.putGroup g r).pending = s.pending := rfl

/-! ### putDemand -/

@[simp] theorem State.putDemand_clock (g : GroupId) (r : Demand) : (s.putDemand g r).clock = s.clock := rfl
@[simp] theorem State.putDemand_mode (g : GroupId) (r : Demand) : (s.putDemand g r).mode = s.mode := rfl
@[simp] theorem State.putDemand_committed (g : GroupId) (r : Demand) :
    (s.putDemand g r).committed = s.committed := rfl
@[simp] theorem State.putDemand_working (g : GroupId) (r : Demand) : (s.putDemand g r).working = s.working := rfl
@[simp] theorem State.putDemand_groups (g : GroupId) (r : Demand) : (s.putDemand g r).groups = s.groups := rfl
@[simp] theorem State.putDemand_queue (g : GroupId) (r : Demand) : (s.putDemand g r).queue = s.queue := rfl
@[simp] theorem State.putDemand_demand (g : GroupId) (r : Demand) : (s.putDemand g r).demand = s.demand.set g r := rfl
@[simp] theorem State.putDemand_preempt (g : GroupId) (r : Demand) : (s.putDemand g r).preempt = s.preempt := rfl
@[simp] theorem State.putDemand_outputs (g : GroupId) (r : Demand) : (s.putDemand g r).outputs = s.outputs := rfl
@[simp] theorem State.putDemand_dimming (g : GroupId) (r : Demand) : (s.putDemand g r).dimming = s.dimming := rfl
@[simp] theorem State.putDemand_flash (g : GroupId) (r : Demand) : (s.putDemand g r).flash = s.flash := rfl
@[simp] theorem State.putDemand_audio (g : GroupId) (r : Demand) : (s.putDemand g r).audio = s.audio := rfl
@[simp] theorem State.putDemand_monitor (g : GroupId) (r : Demand) : (s.putDemand g r).monitor = s.monitor := rfl
@[simp] theorem State.putDemand_faults (g : GroupId) (r : Demand) : (s.putDemand g r).faults = s.faults := rfl
@[simp] theorem State.putDemand_stations (g : GroupId) (r : Demand) : (s.putDemand g r).stations = s.stations := rfl
@[simp] theorem State.putDemand_bus (g : GroupId) (r : Demand) : (s.putDemand g r).bus = s.bus := rfl
@[simp] theorem State.putDemand_channels (g : GroupId) (r : Demand) : (s.putDemand g r).channels = s.channels := rfl
@[simp] theorem State.putDemand_signs (g : GroupId) (r : Demand) : (s.putDemand g r).signs = s.signs := rfl
@[simp] theorem State.putDemand_link (g : GroupId) (r : Demand) : (s.putDemand g r).link = s.link := rfl
@[simp] theorem State.putDemand_choices (g : GroupId) (r : Demand) : (s.putDemand g r).choices = s.choices := rfl
@[simp] theorem State.putDemand_pending (g : GroupId) (r : Demand) : (s.putDemand g r).pending = s.pending := rfl

/-! ### putPreempt -/

@[simp] theorem State.putPreempt_clock (p : PreemptId) (r : Preempt) : (s.putPreempt p r).clock = s.clock := rfl
@[simp] theorem State.putPreempt_mode (p : PreemptId) (r : Preempt) : (s.putPreempt p r).mode = s.mode := rfl
@[simp] theorem State.putPreempt_committed (p : PreemptId) (r : Preempt) :
    (s.putPreempt p r).committed = s.committed := rfl
@[simp] theorem State.putPreempt_working (p : PreemptId) (r : Preempt) : (s.putPreempt p r).working = s.working := rfl
@[simp] theorem State.putPreempt_groups (p : PreemptId) (r : Preempt) : (s.putPreempt p r).groups = s.groups := rfl
@[simp] theorem State.putPreempt_queue (p : PreemptId) (r : Preempt) : (s.putPreempt p r).queue = s.queue := rfl
@[simp] theorem State.putPreempt_demand (p : PreemptId) (r : Preempt) : (s.putPreempt p r).demand = s.demand := rfl
@[simp] theorem State.putPreempt_preempt (p : PreemptId) (r : Preempt) :
    (s.putPreempt p r).preempt = s.preempt.set p r := rfl
@[simp] theorem State.putPreempt_outputs (p : PreemptId) (r : Preempt) : (s.putPreempt p r).outputs = s.outputs := rfl
@[simp] theorem State.putPreempt_dimming (p : PreemptId) (r : Preempt) : (s.putPreempt p r).dimming = s.dimming := rfl
@[simp] theorem State.putPreempt_flash (p : PreemptId) (r : Preempt) : (s.putPreempt p r).flash = s.flash := rfl
@[simp] theorem State.putPreempt_audio (p : PreemptId) (r : Preempt) : (s.putPreempt p r).audio = s.audio := rfl
@[simp] theorem State.putPreempt_monitor (p : PreemptId) (r : Preempt) : (s.putPreempt p r).monitor = s.monitor := rfl
@[simp] theorem State.putPreempt_faults (p : PreemptId) (r : Preempt) : (s.putPreempt p r).faults = s.faults := rfl
@[simp] theorem State.putPreempt_stations (p : PreemptId) (r : Preempt) :
    (s.putPreempt p r).stations = s.stations := rfl
@[simp] theorem State.putPreempt_bus (p : PreemptId) (r : Preempt) : (s.putPreempt p r).bus = s.bus := rfl
@[simp] theorem State.putPreempt_channels (p : PreemptId) (r : Preempt) :
    (s.putPreempt p r).channels = s.channels := rfl
@[simp] theorem State.putPreempt_signs (p : PreemptId) (r : Preempt) : (s.putPreempt p r).signs = s.signs := rfl
@[simp] theorem State.putPreempt_link (p : PreemptId) (r : Preempt) : (s.putPreempt p r).link = s.link := rfl
@[simp] theorem State.putPreempt_choices (p : PreemptId) (r : Preempt) : (s.putPreempt p r).choices = s.choices := rfl
@[simp] theorem State.putPreempt_pending (p : PreemptId) (r : Preempt) : (s.putPreempt p r).pending = s.pending := rfl

/-! ### putAudio -/

@[simp] theorem State.putAudio_clock (a : AudioId) (r : Audio) : (s.putAudio a r).clock = s.clock := rfl
@[simp] theorem State.putAudio_mode (a : AudioId) (r : Audio) : (s.putAudio a r).mode = s.mode := rfl
@[simp] theorem State.putAudio_committed (a : AudioId) (r : Audio) : (s.putAudio a r).committed = s.committed := rfl
@[simp] theorem State.putAudio_working (a : AudioId) (r : Audio) : (s.putAudio a r).working = s.working := rfl
@[simp] theorem State.putAudio_groups (a : AudioId) (r : Audio) : (s.putAudio a r).groups = s.groups := rfl
@[simp] theorem State.putAudio_queue (a : AudioId) (r : Audio) : (s.putAudio a r).queue = s.queue := rfl
@[simp] theorem State.putAudio_demand (a : AudioId) (r : Audio) : (s.putAudio a r).demand = s.demand := rfl
@[simp] theorem State.putAudio_preempt (a : AudioId) (r : Audio) : (s.putAudio a r).preempt = s.preempt := rfl
@[simp] theorem State.putAudio_outputs (a : AudioId) (r : Audio) : (s.putAudio a r).outputs = s.outputs := rfl
@[simp] theorem State.putAudio_dimming (a : AudioId) (r : Audio) : (s.putAudio a r).dimming = s.dimming := rfl
@[simp] theorem State.putAudio_flash (a : AudioId) (r : Audio) : (s.putAudio a r).flash = s.flash := rfl
@[simp] theorem State.putAudio_audio (a : AudioId) (r : Audio) : (s.putAudio a r).audio = s.audio.set a r := rfl
@[simp] theorem State.putAudio_monitor (a : AudioId) (r : Audio) : (s.putAudio a r).monitor = s.monitor := rfl
@[simp] theorem State.putAudio_faults (a : AudioId) (r : Audio) : (s.putAudio a r).faults = s.faults := rfl
@[simp] theorem State.putAudio_stations (a : AudioId) (r : Audio) : (s.putAudio a r).stations = s.stations := rfl
@[simp] theorem State.putAudio_bus (a : AudioId) (r : Audio) : (s.putAudio a r).bus = s.bus := rfl
@[simp] theorem State.putAudio_channels (a : AudioId) (r : Audio) : (s.putAudio a r).channels = s.channels := rfl
@[simp] theorem State.putAudio_signs (a : AudioId) (r : Audio) : (s.putAudio a r).signs = s.signs := rfl
@[simp] theorem State.putAudio_link (a : AudioId) (r : Audio) : (s.putAudio a r).link = s.link := rfl
@[simp] theorem State.putAudio_choices (a : AudioId) (r : Audio) : (s.putAudio a r).choices = s.choices := rfl
@[simp] theorem State.putAudio_pending (a : AudioId) (r : Audio) : (s.putAudio a r).pending = s.pending := rfl

/-! ### putStation -/

@[simp] theorem State.putStation_clock (st : StationId) (r : Station) : (s.putStation st r).clock = s.clock := rfl
@[simp] theorem State.putStation_mode (st : StationId) (r : Station) : (s.putStation st r).mode = s.mode := rfl
@[simp] theorem State.putStation_committed (st : StationId) (r : Station) :
    (s.putStation st r).committed = s.committed := rfl
@[simp] theorem State.putStation_working (st : StationId) (r : Station) :
    (s.putStation st r).working = s.working := rfl
@[simp] theorem State.putStation_groups (st : StationId) (r : Station) : (s.putStation st r).groups = s.groups := rfl
@[simp] theorem State.putStation_queue (st : StationId) (r : Station) : (s.putStation st r).queue = s.queue := rfl
@[simp] theorem State.putStation_demand (st : StationId) (r : Station) : (s.putStation st r).demand = s.demand := rfl
@[simp] theorem State.putStation_preempt (st : StationId) (r : Station) :
    (s.putStation st r).preempt = s.preempt := rfl
@[simp] theorem State.putStation_outputs (st : StationId) (r : Station) :
    (s.putStation st r).outputs = s.outputs := rfl
@[simp] theorem State.putStation_dimming (st : StationId) (r : Station) :
    (s.putStation st r).dimming = s.dimming := rfl
@[simp] theorem State.putStation_flash (st : StationId) (r : Station) : (s.putStation st r).flash = s.flash := rfl
@[simp] theorem State.putStation_audio (st : StationId) (r : Station) : (s.putStation st r).audio = s.audio := rfl
@[simp] theorem State.putStation_monitor (st : StationId) (r : Station) :
    (s.putStation st r).monitor = s.monitor := rfl
@[simp] theorem State.putStation_faults (st : StationId) (r : Station) : (s.putStation st r).faults = s.faults := rfl
@[simp] theorem State.putStation_stations (st : StationId) (r : Station) :
    (s.putStation st r).stations = s.stations.set st r := rfl
@[simp] theorem State.putStation_bus (st : StationId) (r : Station) : (s.putStation st r).bus = s.bus := rfl
@[simp] theorem State.putStation_channels (st : StationId) (r : Station) :
    (s.putStation st r).channels = s.channels := rfl
@[simp] theorem State.putStation_signs (st : StationId) (r : Station) : (s.putStation st r).signs = s.signs := rfl
@[simp] theorem State.putStation_link (st : StationId) (r : Station) : (s.putStation st r).link = s.link := rfl
@[simp] theorem State.putStation_choices (st : StationId) (r : Station) :
    (s.putStation st r).choices = s.choices := rfl
@[simp] theorem State.putStation_pending (st : StationId) (r : Station) :
    (s.putStation st r).pending = s.pending := rfl

/-! ### putSign -/

@[simp] theorem State.putSign_clock (n : SignId) (r : Sign) : (s.putSign n r).clock = s.clock := rfl
@[simp] theorem State.putSign_mode (n : SignId) (r : Sign) : (s.putSign n r).mode = s.mode := rfl
@[simp] theorem State.putSign_committed (n : SignId) (r : Sign) : (s.putSign n r).committed = s.committed := rfl
@[simp] theorem State.putSign_working (n : SignId) (r : Sign) : (s.putSign n r).working = s.working := rfl
@[simp] theorem State.putSign_groups (n : SignId) (r : Sign) : (s.putSign n r).groups = s.groups := rfl
@[simp] theorem State.putSign_queue (n : SignId) (r : Sign) : (s.putSign n r).queue = s.queue := rfl
@[simp] theorem State.putSign_demand (n : SignId) (r : Sign) : (s.putSign n r).demand = s.demand := rfl
@[simp] theorem State.putSign_preempt (n : SignId) (r : Sign) : (s.putSign n r).preempt = s.preempt := rfl
@[simp] theorem State.putSign_outputs (n : SignId) (r : Sign) : (s.putSign n r).outputs = s.outputs := rfl
@[simp] theorem State.putSign_dimming (n : SignId) (r : Sign) : (s.putSign n r).dimming = s.dimming := rfl
@[simp] theorem State.putSign_flash (n : SignId) (r : Sign) : (s.putSign n r).flash = s.flash := rfl
@[simp] theorem State.putSign_audio (n : SignId) (r : Sign) : (s.putSign n r).audio = s.audio := rfl
@[simp] theorem State.putSign_monitor (n : SignId) (r : Sign) : (s.putSign n r).monitor = s.monitor := rfl
@[simp] theorem State.putSign_faults (n : SignId) (r : Sign) : (s.putSign n r).faults = s.faults := rfl
@[simp] theorem State.putSign_stations (n : SignId) (r : Sign) : (s.putSign n r).stations = s.stations := rfl
@[simp] theorem State.putSign_bus (n : SignId) (r : Sign) : (s.putSign n r).bus = s.bus := rfl
@[simp] theorem State.putSign_channels (n : SignId) (r : Sign) : (s.putSign n r).channels = s.channels := rfl
@[simp] theorem State.putSign_signs (n : SignId) (r : Sign) : (s.putSign n r).signs = s.signs.set n r := rfl
@[simp] theorem State.putSign_link (n : SignId) (r : Sign) : (s.putSign n r).link = s.link := rfl
@[simp] theorem State.putSign_choices (n : SignId) (r : Sign) : (s.putSign n r).choices = s.choices := rfl
@[simp] theorem State.putSign_pending (n : SignId) (r : Sign) : (s.putSign n r).pending = s.pending := rfl

/-! ### putChannel -/

@[simp] theorem State.putChannel_clock (c : ChannelId) (r : Channel) : (s.putChannel c r).clock = s.clock := rfl
@[simp] theorem State.putChannel_mode (c : ChannelId) (r : Channel) : (s.putChannel c r).mode = s.mode := rfl
@[simp] theorem State.putChannel_committed (c : ChannelId) (r : Channel) :
    (s.putChannel c r).committed = s.committed := rfl
@[simp] theorem State.putChannel_working (c : ChannelId) (r : Channel) : (s.putChannel c r).working = s.working := rfl
@[simp] theorem State.putChannel_groups (c : ChannelId) (r : Channel) : (s.putChannel c r).groups = s.groups := rfl
@[simp] theorem State.putChannel_queue (c : ChannelId) (r : Channel) : (s.putChannel c r).queue = s.queue := rfl
@[simp] theorem State.putChannel_demand (c : ChannelId) (r : Channel) : (s.putChannel c r).demand = s.demand := rfl
@[simp] theorem State.putChannel_preempt (c : ChannelId) (r : Channel) : (s.putChannel c r).preempt = s.preempt := rfl
@[simp] theorem State.putChannel_outputs (c : ChannelId) (r : Channel) : (s.putChannel c r).outputs = s.outputs := rfl
@[simp] theorem State.putChannel_dimming (c : ChannelId) (r : Channel) : (s.putChannel c r).dimming = s.dimming := rfl
@[simp] theorem State.putChannel_flash (c : ChannelId) (r : Channel) : (s.putChannel c r).flash = s.flash := rfl
@[simp] theorem State.putChannel_audio (c : ChannelId) (r : Channel) : (s.putChannel c r).audio = s.audio := rfl
@[simp] theorem State.putChannel_monitor (c : ChannelId) (r : Channel) : (s.putChannel c r).monitor = s.monitor := rfl
@[simp] theorem State.putChannel_faults (c : ChannelId) (r : Channel) : (s.putChannel c r).faults = s.faults := rfl
@[simp] theorem State.putChannel_stations (c : ChannelId) (r : Channel) :
    (s.putChannel c r).stations = s.stations := rfl
@[simp] theorem State.putChannel_bus (c : ChannelId) (r : Channel) : (s.putChannel c r).bus = s.bus := rfl
@[simp] theorem State.putChannel_channels (c : ChannelId) (r : Channel) :
    (s.putChannel c r).channels = s.channels.upd c.station fun b => b.set c.channel r := rfl
@[simp] theorem State.putChannel_signs (c : ChannelId) (r : Channel) : (s.putChannel c r).signs = s.signs := rfl
@[simp] theorem State.putChannel_link (c : ChannelId) (r : Channel) : (s.putChannel c r).link = s.link := rfl
@[simp] theorem State.putChannel_choices (c : ChannelId) (r : Channel) : (s.putChannel c r).choices = s.choices := rfl
@[simp] theorem State.putChannel_pending (c : ChannelId) (r : Channel) : (s.putChannel c r).pending = s.pending := rfl

/-! ### putOutput -/

@[simp] theorem State.putOutput_clock (g : GroupId) (c : Colour) (o : Output) :
    (s.putOutput g c o).clock = s.clock := rfl
@[simp] theorem State.putOutput_mode (g : GroupId) (c : Colour) (o : Output) :
    (s.putOutput g c o).mode = s.mode := rfl
@[simp] theorem State.putOutput_committed (g : GroupId) (c : Colour) (o : Output) :
    (s.putOutput g c o).committed = s.committed := rfl
@[simp] theorem State.putOutput_working (g : GroupId) (c : Colour) (o : Output) :
    (s.putOutput g c o).working = s.working := rfl
@[simp] theorem State.putOutput_groups (g : GroupId) (c : Colour) (o : Output) :
    (s.putOutput g c o).groups = s.groups := rfl
@[simp] theorem State.putOutput_queue (g : GroupId) (c : Colour) (o : Output) :
    (s.putOutput g c o).queue = s.queue := rfl
@[simp] theorem State.putOutput_demand (g : GroupId) (c : Colour) (o : Output) :
    (s.putOutput g c o).demand = s.demand := rfl
@[simp] theorem State.putOutput_preempt (g : GroupId) (c : Colour) (o : Output) :
    (s.putOutput g c o).preempt = s.preempt := rfl
@[simp] theorem State.putOutput_outputs (g : GroupId) (c : Colour) (o : Output) :
    (s.putOutput g c o).outputs = s.outputs.upd g fun t => t.put c o := rfl
@[simp] theorem State.putOutput_dimming (g : GroupId) (c : Colour) (o : Output) :
    (s.putOutput g c o).dimming = s.dimming := rfl
@[simp] theorem State.putOutput_flash (g : GroupId) (c : Colour) (o : Output) :
    (s.putOutput g c o).flash = s.flash := rfl
@[simp] theorem State.putOutput_audio (g : GroupId) (c : Colour) (o : Output) :
    (s.putOutput g c o).audio = s.audio := rfl
@[simp] theorem State.putOutput_monitor (g : GroupId) (c : Colour) (o : Output) :
    (s.putOutput g c o).monitor = s.monitor := rfl
@[simp] theorem State.putOutput_faults (g : GroupId) (c : Colour) (o : Output) :
    (s.putOutput g c o).faults = s.faults := rfl
@[simp] theorem State.putOutput_stations (g : GroupId) (c : Colour) (o : Output) :
    (s.putOutput g c o).stations = s.stations := rfl
@[simp] theorem State.putOutput_bus (g : GroupId) (c : Colour) (o : Output) : (s.putOutput g c o).bus = s.bus := rfl
@[simp] theorem State.putOutput_channels (g : GroupId) (c : Colour) (o : Output) :
    (s.putOutput g c o).channels = s.channels := rfl
@[simp] theorem State.putOutput_signs (g : GroupId) (c : Colour) (o : Output) :
    (s.putOutput g c o).signs = s.signs := rfl
@[simp] theorem State.putOutput_link (g : GroupId) (c : Colour) (o : Output) :
    (s.putOutput g c o).link = s.link := rfl
@[simp] theorem State.putOutput_choices (g : GroupId) (c : Colour) (o : Output) :
    (s.putOutput g c o).choices = s.choices := rfl
@[simp] theorem State.putOutput_pending (g : GroupId) (c : Colour) (o : Output) :
    (s.putOutput g c o).pending = s.pending := rfl

/-! ### putLink -/

@[simp] theorem State.putLink_clock (l : Link) : (s.putLink l).clock = s.clock := rfl
@[simp] theorem State.putLink_mode (l : Link) : (s.putLink l).mode = s.mode := rfl
@[simp] theorem State.putLink_committed (l : Link) : (s.putLink l).committed = s.committed := rfl
@[simp] theorem State.putLink_working (l : Link) : (s.putLink l).working = s.working := rfl
@[simp] theorem State.putLink_groups (l : Link) : (s.putLink l).groups = s.groups := rfl
@[simp] theorem State.putLink_queue (l : Link) : (s.putLink l).queue = s.queue := rfl
@[simp] theorem State.putLink_demand (l : Link) : (s.putLink l).demand = s.demand := rfl
@[simp] theorem State.putLink_preempt (l : Link) : (s.putLink l).preempt = s.preempt := rfl
@[simp] theorem State.putLink_outputs (l : Link) : (s.putLink l).outputs = s.outputs := rfl
@[simp] theorem State.putLink_dimming (l : Link) : (s.putLink l).dimming = s.dimming := rfl
@[simp] theorem State.putLink_flash (l : Link) : (s.putLink l).flash = s.flash := rfl
@[simp] theorem State.putLink_audio (l : Link) : (s.putLink l).audio = s.audio := rfl
@[simp] theorem State.putLink_monitor (l : Link) : (s.putLink l).monitor = s.monitor := rfl
@[simp] theorem State.putLink_faults (l : Link) : (s.putLink l).faults = s.faults := rfl
@[simp] theorem State.putLink_stations (l : Link) : (s.putLink l).stations = s.stations := rfl
@[simp] theorem State.putLink_bus (l : Link) : (s.putLink l).bus = s.bus := rfl
@[simp] theorem State.putLink_channels (l : Link) : (s.putLink l).channels = s.channels := rfl
@[simp] theorem State.putLink_signs (l : Link) : (s.putLink l).signs = s.signs := rfl
@[simp] theorem State.putLink_link (l : Link) : (s.putLink l).link = l := rfl
@[simp] theorem State.putLink_choices (l : Link) : (s.putLink l).choices = s.choices := rfl
@[simp] theorem State.putLink_pending (l : Link) : (s.putLink l).pending = s.pending := rfl

/-! ### putQueue -/

@[simp] theorem State.putQueue_clock (q : List Entry) : (s.putQueue q).clock = s.clock := rfl
@[simp] theorem State.putQueue_mode (q : List Entry) : (s.putQueue q).mode = s.mode := rfl
@[simp] theorem State.putQueue_committed (q : List Entry) : (s.putQueue q).committed = s.committed := rfl
@[simp] theorem State.putQueue_working (q : List Entry) : (s.putQueue q).working = s.working := rfl
@[simp] theorem State.putQueue_groups (q : List Entry) : (s.putQueue q).groups = s.groups := rfl
@[simp] theorem State.putQueue_queue (q : List Entry) : (s.putQueue q).queue = q := rfl
@[simp] theorem State.putQueue_demand (q : List Entry) : (s.putQueue q).demand = s.demand := rfl
@[simp] theorem State.putQueue_preempt (q : List Entry) : (s.putQueue q).preempt = s.preempt := rfl
@[simp] theorem State.putQueue_outputs (q : List Entry) : (s.putQueue q).outputs = s.outputs := rfl
@[simp] theorem State.putQueue_dimming (q : List Entry) : (s.putQueue q).dimming = s.dimming := rfl
@[simp] theorem State.putQueue_flash (q : List Entry) : (s.putQueue q).flash = s.flash := rfl
@[simp] theorem State.putQueue_audio (q : List Entry) : (s.putQueue q).audio = s.audio := rfl
@[simp] theorem State.putQueue_monitor (q : List Entry) : (s.putQueue q).monitor = s.monitor := rfl
@[simp] theorem State.putQueue_faults (q : List Entry) : (s.putQueue q).faults = s.faults := rfl
@[simp] theorem State.putQueue_stations (q : List Entry) : (s.putQueue q).stations = s.stations := rfl
@[simp] theorem State.putQueue_bus (q : List Entry) : (s.putQueue q).bus = s.bus := rfl
@[simp] theorem State.putQueue_channels (q : List Entry) : (s.putQueue q).channels = s.channels := rfl
@[simp] theorem State.putQueue_signs (q : List Entry) : (s.putQueue q).signs = s.signs := rfl
@[simp] theorem State.putQueue_link (q : List Entry) : (s.putQueue q).link = s.link := rfl
@[simp] theorem State.putQueue_choices (q : List Entry) : (s.putQueue q).choices = s.choices := rfl
@[simp] theorem State.putQueue_pending (q : List Entry) : (s.putQueue q).pending = s.pending := rfl

/-! ### putFaults -/

@[simp] theorem State.putFaults_clock (l : List FaultRecord) : (s.putFaults l).clock = s.clock := rfl
@[simp] theorem State.putFaults_mode (l : List FaultRecord) : (s.putFaults l).mode = s.mode := rfl
@[simp] theorem State.putFaults_committed (l : List FaultRecord) : (s.putFaults l).committed = s.committed := rfl
@[simp] theorem State.putFaults_working (l : List FaultRecord) : (s.putFaults l).working = s.working := rfl
@[simp] theorem State.putFaults_groups (l : List FaultRecord) : (s.putFaults l).groups = s.groups := rfl
@[simp] theorem State.putFaults_queue (l : List FaultRecord) : (s.putFaults l).queue = s.queue := rfl
@[simp] theorem State.putFaults_demand (l : List FaultRecord) : (s.putFaults l).demand = s.demand := rfl
@[simp] theorem State.putFaults_preempt (l : List FaultRecord) : (s.putFaults l).preempt = s.preempt := rfl
@[simp] theorem State.putFaults_outputs (l : List FaultRecord) : (s.putFaults l).outputs = s.outputs := rfl
@[simp] theorem State.putFaults_dimming (l : List FaultRecord) : (s.putFaults l).dimming = s.dimming := rfl
@[simp] theorem State.putFaults_flash (l : List FaultRecord) : (s.putFaults l).flash = s.flash := rfl
@[simp] theorem State.putFaults_audio (l : List FaultRecord) : (s.putFaults l).audio = s.audio := rfl
@[simp] theorem State.putFaults_monitor (l : List FaultRecord) : (s.putFaults l).monitor = s.monitor := rfl
@[simp] theorem State.putFaults_faults (l : List FaultRecord) : (s.putFaults l).faults = l := rfl
@[simp] theorem State.putFaults_stations (l : List FaultRecord) : (s.putFaults l).stations = s.stations := rfl
@[simp] theorem State.putFaults_bus (l : List FaultRecord) : (s.putFaults l).bus = s.bus := rfl
@[simp] theorem State.putFaults_channels (l : List FaultRecord) : (s.putFaults l).channels = s.channels := rfl
@[simp] theorem State.putFaults_signs (l : List FaultRecord) : (s.putFaults l).signs = s.signs := rfl
@[simp] theorem State.putFaults_link (l : List FaultRecord) : (s.putFaults l).link = s.link := rfl
@[simp] theorem State.putFaults_choices (l : List FaultRecord) : (s.putFaults l).choices = s.choices := rfl
@[simp] theorem State.putFaults_pending (l : List FaultRecord) : (s.putFaults l).pending = s.pending := rfl

/-! ### putConditions -/

@[simp] theorem State.putConditions_clock (l : List Condition) : (s.putConditions l).clock = s.clock := rfl
@[simp] theorem State.putConditions_mode (l : List Condition) : (s.putConditions l).mode = s.mode := rfl
@[simp] theorem State.putConditions_committed (l : List Condition) :
    (s.putConditions l).committed = s.committed := rfl
@[simp] theorem State.putConditions_working (l : List Condition) : (s.putConditions l).working = s.working := rfl
@[simp] theorem State.putConditions_groups (l : List Condition) : (s.putConditions l).groups = s.groups := rfl
@[simp] theorem State.putConditions_queue (l : List Condition) : (s.putConditions l).queue = s.queue := rfl
@[simp] theorem State.putConditions_demand (l : List Condition) : (s.putConditions l).demand = s.demand := rfl
@[simp] theorem State.putConditions_preempt (l : List Condition) : (s.putConditions l).preempt = s.preempt := rfl
@[simp] theorem State.putConditions_outputs (l : List Condition) : (s.putConditions l).outputs = s.outputs := rfl
@[simp] theorem State.putConditions_dimming (l : List Condition) : (s.putConditions l).dimming = s.dimming := rfl
@[simp] theorem State.putConditions_flash (l : List Condition) : (s.putConditions l).flash = s.flash := rfl
@[simp] theorem State.putConditions_audio (l : List Condition) : (s.putConditions l).audio = s.audio := rfl
@[simp] theorem State.putConditions_monitor (l : List Condition) :
    (s.putConditions l).monitor = { s.monitor with conditions := l } := rfl
@[simp] theorem State.putConditions_faults (l : List Condition) : (s.putConditions l).faults = s.faults := rfl
@[simp] theorem State.putConditions_stations (l : List Condition) : (s.putConditions l).stations = s.stations := rfl
@[simp] theorem State.putConditions_bus (l : List Condition) : (s.putConditions l).bus = s.bus := rfl
@[simp] theorem State.putConditions_channels (l : List Condition) : (s.putConditions l).channels = s.channels := rfl
@[simp] theorem State.putConditions_signs (l : List Condition) : (s.putConditions l).signs = s.signs := rfl
@[simp] theorem State.putConditions_link (l : List Condition) : (s.putConditions l).link = s.link := rfl
@[simp] theorem State.putConditions_choices (l : List Condition) : (s.putConditions l).choices = s.choices := rfl
@[simp] theorem State.putConditions_pending (l : List Condition) : (s.putConditions l).pending = s.pending := rfl

/-! ### putClearance -/

@[simp] theorem State.putClearance_clock (g : GroupId) (c : Clearance) : (s.putClearance g c).clock = s.clock := rfl
@[simp] theorem State.putClearance_mode (g : GroupId) (c : Clearance) : (s.putClearance g c).mode = s.mode := rfl
@[simp] theorem State.putClearance_committed (g : GroupId) (c : Clearance) :
    (s.putClearance g c).committed = s.committed := rfl
@[simp] theorem State.putClearance_working (g : GroupId) (c : Clearance) :
    (s.putClearance g c).working = s.working := rfl
@[simp] theorem State.putClearance_groups (g : GroupId) (c : Clearance) :
    (s.putClearance g c).groups = s.groups := rfl
@[simp] theorem State.putClearance_queue (g : GroupId) (c : Clearance) : (s.putClearance g c).queue = s.queue := rfl
@[simp] theorem State.putClearance_demand (g : GroupId) (c : Clearance) :
    (s.putClearance g c).demand = s.demand := rfl
@[simp] theorem State.putClearance_preempt (g : GroupId) (c : Clearance) :
    (s.putClearance g c).preempt = s.preempt := rfl
@[simp] theorem State.putClearance_outputs (g : GroupId) (c : Clearance) :
    (s.putClearance g c).outputs = s.outputs := rfl
@[simp] theorem State.putClearance_dimming (g : GroupId) (c : Clearance) :
    (s.putClearance g c).dimming = s.dimming := rfl
@[simp] theorem State.putClearance_flash (g : GroupId) (c : Clearance) : (s.putClearance g c).flash = s.flash := rfl
@[simp] theorem State.putClearance_audio (g : GroupId) (c : Clearance) : (s.putClearance g c).audio = s.audio := rfl
@[simp] theorem State.putClearance_monitor (g : GroupId) (c : Clearance) :
    (s.putClearance g c).monitor = { s.monitor with clearance := s.monitor.clearance.set g c } := rfl
@[simp] theorem State.putClearance_faults (g : GroupId) (c : Clearance) :
    (s.putClearance g c).faults = s.faults := rfl
@[simp] theorem State.putClearance_stations (g : GroupId) (c : Clearance) :
    (s.putClearance g c).stations = s.stations := rfl
@[simp] theorem State.putClearance_bus (g : GroupId) (c : Clearance) : (s.putClearance g c).bus = s.bus := rfl
@[simp] theorem State.putClearance_channels (g : GroupId) (c : Clearance) :
    (s.putClearance g c).channels = s.channels := rfl
@[simp] theorem State.putClearance_signs (g : GroupId) (c : Clearance) : (s.putClearance g c).signs = s.signs := rfl
@[simp] theorem State.putClearance_link (g : GroupId) (c : Clearance) : (s.putClearance g c).link = s.link := rfl
@[simp] theorem State.putClearance_choices (g : GroupId) (c : Clearance) :
    (s.putClearance g c).choices = s.choices := rfl
@[simp] theorem State.putClearance_pending (g : GroupId) (c : Clearance) :
    (s.putClearance g c).pending = s.pending := rfl

/-! ### putOverlaps -/

@[simp] theorem State.putOverlaps_clock (l : List Overlap) : (s.putOverlaps l).clock = s.clock := rfl
@[simp] theorem State.putOverlaps_mode (l : List Overlap) : (s.putOverlaps l).mode = s.mode := rfl
@[simp] theorem State.putOverlaps_committed (l : List Overlap) : (s.putOverlaps l).committed = s.committed := rfl
@[simp] theorem State.putOverlaps_working (l : List Overlap) : (s.putOverlaps l).working = s.working := rfl
@[simp] theorem State.putOverlaps_groups (l : List Overlap) : (s.putOverlaps l).groups = s.groups := rfl
@[simp] theorem State.putOverlaps_queue (l : List Overlap) : (s.putOverlaps l).queue = s.queue := rfl
@[simp] theorem State.putOverlaps_demand (l : List Overlap) : (s.putOverlaps l).demand = s.demand := rfl
@[simp] theorem State.putOverlaps_preempt (l : List Overlap) : (s.putOverlaps l).preempt = s.preempt := rfl
@[simp] theorem State.putOverlaps_outputs (l : List Overlap) : (s.putOverlaps l).outputs = s.outputs := rfl
@[simp] theorem State.putOverlaps_dimming (l : List Overlap) : (s.putOverlaps l).dimming = s.dimming := rfl
@[simp] theorem State.putOverlaps_flash (l : List Overlap) : (s.putOverlaps l).flash = s.flash := rfl
@[simp] theorem State.putOverlaps_audio (l : List Overlap) : (s.putOverlaps l).audio = s.audio := rfl
@[simp] theorem State.putOverlaps_monitor (l : List Overlap) :
    (s.putOverlaps l).monitor = { s.monitor with overlaps := l } := rfl
@[simp] theorem State.putOverlaps_faults (l : List Overlap) : (s.putOverlaps l).faults = s.faults := rfl
@[simp] theorem State.putOverlaps_stations (l : List Overlap) : (s.putOverlaps l).stations = s.stations := rfl
@[simp] theorem State.putOverlaps_bus (l : List Overlap) : (s.putOverlaps l).bus = s.bus := rfl
@[simp] theorem State.putOverlaps_channels (l : List Overlap) : (s.putOverlaps l).channels = s.channels := rfl
@[simp] theorem State.putOverlaps_signs (l : List Overlap) : (s.putOverlaps l).signs = s.signs := rfl
@[simp] theorem State.putOverlaps_link (l : List Overlap) : (s.putOverlaps l).link = s.link := rfl
@[simp] theorem State.putOverlaps_choices (l : List Overlap) : (s.putOverlaps l).choices = s.choices := rfl
@[simp] theorem State.putOverlaps_pending (l : List Overlap) : (s.putOverlaps l).pending = s.pending := rfl

/-! ### putBus -/

@[simp] theorem State.putBus_clock (b : Bus) : (s.putBus b).clock = s.clock := rfl
@[simp] theorem State.putBus_mode (b : Bus) : (s.putBus b).mode = s.mode := rfl
@[simp] theorem State.putBus_committed (b : Bus) : (s.putBus b).committed = s.committed := rfl
@[simp] theorem State.putBus_working (b : Bus) : (s.putBus b).working = s.working := rfl
@[simp] theorem State.putBus_groups (b : Bus) : (s.putBus b).groups = s.groups := rfl
@[simp] theorem State.putBus_queue (b : Bus) : (s.putBus b).queue = s.queue := rfl
@[simp] theorem State.putBus_demand (b : Bus) : (s.putBus b).demand = s.demand := rfl
@[simp] theorem State.putBus_preempt (b : Bus) : (s.putBus b).preempt = s.preempt := rfl
@[simp] theorem State.putBus_outputs (b : Bus) : (s.putBus b).outputs = s.outputs := rfl
@[simp] theorem State.putBus_dimming (b : Bus) : (s.putBus b).dimming = s.dimming := rfl
@[simp] theorem State.putBus_flash (b : Bus) : (s.putBus b).flash = s.flash := rfl
@[simp] theorem State.putBus_audio (b : Bus) : (s.putBus b).audio = s.audio := rfl
@[simp] theorem State.putBus_monitor (b : Bus) : (s.putBus b).monitor = s.monitor := rfl
@[simp] theorem State.putBus_faults (b : Bus) : (s.putBus b).faults = s.faults := rfl
@[simp] theorem State.putBus_stations (b : Bus) : (s.putBus b).stations = s.stations := rfl
@[simp] theorem State.putBus_bus (b : Bus) : (s.putBus b).bus = b := rfl
@[simp] theorem State.putBus_channels (b : Bus) : (s.putBus b).channels = s.channels := rfl
@[simp] theorem State.putBus_signs (b : Bus) : (s.putBus b).signs = s.signs := rfl
@[simp] theorem State.putBus_link (b : Bus) : (s.putBus b).link = s.link := rfl
@[simp] theorem State.putBus_choices (b : Bus) : (s.putBus b).choices = s.choices := rfl
@[simp] theorem State.putBus_pending (b : Bus) : (s.putBus b).pending = s.pending := rfl

/-! ### putRamp -/

@[simp] theorem State.putRamp_clock (r : Option Ramp) : (s.putRamp r).clock = s.clock := rfl
@[simp] theorem State.putRamp_mode (r : Option Ramp) : (s.putRamp r).mode = s.mode := rfl
@[simp] theorem State.putRamp_committed (r : Option Ramp) : (s.putRamp r).committed = s.committed := rfl
@[simp] theorem State.putRamp_working (r : Option Ramp) : (s.putRamp r).working = s.working := rfl
@[simp] theorem State.putRamp_groups (r : Option Ramp) : (s.putRamp r).groups = s.groups := rfl
@[simp] theorem State.putRamp_queue (r : Option Ramp) : (s.putRamp r).queue = s.queue := rfl
@[simp] theorem State.putRamp_demand (r : Option Ramp) : (s.putRamp r).demand = s.demand := rfl
@[simp] theorem State.putRamp_preempt (r : Option Ramp) : (s.putRamp r).preempt = s.preempt := rfl
@[simp] theorem State.putRamp_outputs (r : Option Ramp) : (s.putRamp r).outputs = s.outputs := rfl
@[simp] theorem State.putRamp_dimming (r : Option Ramp) : (s.putRamp r).dimming = { s.dimming with ramp := r } := rfl
@[simp] theorem State.putRamp_flash (r : Option Ramp) : (s.putRamp r).flash = s.flash := rfl
@[simp] theorem State.putRamp_audio (r : Option Ramp) : (s.putRamp r).audio = s.audio := rfl
@[simp] theorem State.putRamp_monitor (r : Option Ramp) : (s.putRamp r).monitor = s.monitor := rfl
@[simp] theorem State.putRamp_faults (r : Option Ramp) : (s.putRamp r).faults = s.faults := rfl
@[simp] theorem State.putRamp_stations (r : Option Ramp) : (s.putRamp r).stations = s.stations := rfl
@[simp] theorem State.putRamp_bus (r : Option Ramp) : (s.putRamp r).bus = s.bus := rfl
@[simp] theorem State.putRamp_channels (r : Option Ramp) : (s.putRamp r).channels = s.channels := rfl
@[simp] theorem State.putRamp_signs (r : Option Ramp) : (s.putRamp r).signs = s.signs := rfl
@[simp] theorem State.putRamp_link (r : Option Ramp) : (s.putRamp r).link = s.link := rfl
@[simp] theorem State.putRamp_choices (r : Option Ramp) : (s.putRamp r).choices = s.choices := rfl
@[simp] theorem State.putRamp_pending (r : Option Ramp) : (s.putRamp r).pending = s.pending := rfl

end Sys2Proof.Machine
end

