-- ==== Sys2Proof/Laws/Effect.lean ====
section
/-! SUPPORT. Laws/Effect.lean: what an operation can do, said once: the parts of the state it may change, and that it
changes the link only by raising notices. One lemma for each operation follows in Laws/Effects.lean. -/

namespace Sys2Proof.Machine

/-- `m` is `l` after some notices have been taken. -/
inductive Takes (l : Link) : Link → Prop
  | none : Takes l l
  | more {m : Link} (n : Notice) : Takes l m → Takes l (m.take n)

theorem Takes.trans {l m n : Link} (h : Takes l m) (k : Takes m n) : Takes l n := by
  induction k with
  | none => exact h
  | more x _ ih => exact .more x ih

/-- From `s` to `t` only the listed parts change, and the link only by notices raised. -/
structure Effect (F : List Field) (s t : State) : Prop where
  only : ChangesOnly F s t
  notices : Takes s.link t.link

theorem State.agreesOn_refl (s : State) (f : Field) : s.agreesOn s f := by
  cases f <;> exact rfl

theorem State.agreesOn_trans {s t u : State} {f : Field} (h : s.agreesOn t f) (k : t.agreesOn u f) :
    s.agreesOn u f := by
  cases f <;> exact Eq.trans k h

theorem ChangesOnly.refl (F : List Field) (s : State) : ChangesOnly F s s := fun f _ => s.agreesOn_refl f

theorem ChangesOnly.trans {F : List Field} {s t u : State} (h : ChangesOnly F s t) (k : ChangesOnly F t u) :
    ChangesOnly F s u := fun f hf => State.agreesOn_trans (h f hf) (k f hf)

theorem ChangesOnly.mono {F G : List Field} {s t : State} (h : ChangesOnly G s t)
    (sub : (G.all fun f => F.contains f) = true) : ChangesOnly F s t := by
  intro f hf
  refine h f fun hg => hf ?_
  have := List.all_eq_true.mp sub f hg
  simpa using this

theorem Effect.refl (F : List Field) (s : State) : Effect F s s := ⟨.refl F s, .none⟩

theorem Effect.trans {F : List Field} {s t u : State} (h : Effect F s t) (k : Effect F t u) : Effect F s u :=
  ⟨h.only.trans k.only, h.notices.trans k.notices⟩

theorem Effect.mono {F G : List Field} {s t : State} (h : Effect G s t)
    (sub : (G.all fun f => F.contains f) = true) : Effect F s t := ⟨h.only.mono sub, h.notices⟩

/-- One operation more. -/
theorem Effect.next {F G : List Field} {s t u : State} (k : Effect G t u)
    (sub : (G.all fun f => F.contains f) = true) (h : Effect F s t) : Effect F s u := h.trans (k.mono sub)

/-- An operation performed for each member of a list. -/
theorem Effect.forEach {α : Type} {F : List Field} {f : α → State → State} (h : ∀ a s, Effect F s (f a s)) :
    ∀ (l : List α) (s : State), Effect F s (Machine.forEach l f s)
  | [], s => .refl F s
  | a :: l, s => (h a s).trans (Effect.forEach h l (f a s))

/-- An operation for each member of a list, after others. -/
theorem Effect.each {α : Type} {F : List Field} {f : α → State → State} {l : List α} {s t : State}
    (h : ∀ a s, Effect F s (f a s)) (k : Effect F s t) : Effect F s (Machine.forEach l f t) :=
  k.trans (Effect.forEach h l t)

/-! ### What follows from an effect -/

section
variable {F : List Field} {s t : State} (h : Effect F s t)
include h

theorem Effect.clock (k : Field.clock ∉ F) : t.clock = s.clock := h.only .clock k
theorem Effect.mode (k : Field.mode ∉ F) : t.mode = s.mode := h.only .mode k
theorem Effect.committed (k : Field.committed ∉ F) : t.committed = s.committed := h.only .committed k
theorem Effect.working (k : Field.working ∉ F) : t.working = s.working := h.only .working k
theorem Effect.groups (k : Field.groups ∉ F) : t.groups = s.groups := h.only .groups k
theorem Effect.queue (k : Field.queue ∉ F) : t.queue = s.queue := h.only .queue k
theorem Effect.demand (k : Field.demand ∉ F) : t.demand = s.demand := h.only .demand k
theorem Effect.preempt (k : Field.preempt ∉ F) : t.preempt = s.preempt := h.only .preempt k
theorem Effect.outputs (k : Field.outputs ∉ F) : t.outputs = s.outputs := h.only .outputs k
theorem Effect.dimming (k : Field.dimming ∉ F) : t.dimming = s.dimming := h.only .dimming k
theorem Effect.flash (k : Field.flash ∉ F) : t.flash = s.flash := h.only .flash k
theorem Effect.audio (k : Field.audio ∉ F) : t.audio = s.audio := h.only .audio k
theorem Effect.monitor (k : Field.monitor ∉ F) : t.monitor = s.monitor := h.only .monitor k
theorem Effect.faults (k : Field.faults ∉ F) : t.faults = s.faults := h.only .faults k
theorem Effect.stations (k : Field.stations ∉ F) : t.stations = s.stations := h.only .stations k
theorem Effect.bus (k : Field.bus ∉ F) : t.bus = s.bus := h.only .bus k
theorem Effect.channels (k : Field.channels ∉ F) : t.channels = s.channels := h.only .channels k
theorem Effect.signs (k : Field.signs ∉ F) : t.signs = s.signs := h.only .signs k
theorem Effect.link (k : Field.link ∉ F) : t.link = s.link := h.only .link k
theorem Effect.choices (k : Field.choices ∉ F) : t.choices = s.choices := h.only .choices k
theorem Effect.pending (k : Field.pending ∉ F) : t.pending = s.pending := h.only .pending k

end

/-! ### The link after notices -/

theorem Link.take_keeps (l : Link) (n : Notice) :
    (l.take n).receiver = l.receiver ∧ (l.take n).gapMs = l.gapMs ∧ (l.take n).inProcess = l.inProcess ∧
      (l.take n).holding = l.holding ∧ (l.take n).linkErrors = l.linkErrors ∧ (l.take n).overruns = l.overruns ∧
      (l.take n).sending = l.sending ∧ (l.overflowFlag = true → (l.take n).overflowFlag = true) := by
  unfold Link.take
  split
  · simp
  · split <;> simp

/-- Notices touch neither the receiver, nor the requests, nor the counts, nor the frame on the line. -/
theorem Takes.keeps {l m : Link} (h : Takes l m) :
    m.receiver = l.receiver ∧ m.gapMs = l.gapMs ∧ m.inProcess = l.inProcess ∧ m.holding = l.holding ∧
      m.linkErrors = l.linkErrors ∧ m.overruns = l.overruns ∧ m.sending = l.sending ∧
      (l.overflowFlag = true → m.overflowFlag = true) := by
  induction h with
  | none => simp
  | @more m n _ ih =>
    have := Link.take_keeps m n
    simp_all

/-- What holds of a link and is kept by one notice is kept by any number. -/
theorem Takes.keep {P : Link → Prop} (step : ∀ l n, P l → P (l.take n)) {l m : Link} (h : Takes l m) (start : P l) :
    P m := by
  induction h with
  | none => exact start
  | more n _ ih => exact step _ n ih

end Sys2Proof.Machine
end

