-- ==== Sys2Proof/Laws/Effects.lean ====
section
/-! SUPPORT. Laws/Effects.lean: for each operation that is not a request's whole, the parts of the state it may change;
each changes the link only by the notices it raises (`Effect`). -/

namespace Sys2Proof.Machine

/-- What the signal core and the Sign Store change together. -/
def seqFields : List Field := .signs :: coreFields

/-- What a change of mode changes beside. -/
def modeFields : List Field := .mode :: .working :: .flash :: seqFields

/-! ### One part written -/

section
variable {F : List Field} {s t : State}

theorem Effect.with_mode (v) (k : Field.mode ∈ F) (h : Effect F s t) : Effect F s { t with mode := v } := by
  refine ⟨fun f hf => ?_, h.notices⟩
  have := h.only f hf
  cases f <;> first | exact absurd k hf | exact this

theorem Effect.with_preempt (v) (k : Field.preempt ∈ F) (h : Effect F s t) : Effect F s { t with preempt := v } := by
  refine ⟨fun f hf => ?_, h.notices⟩
  have := h.only f hf
  cases f <;> first | exact absurd k hf | exact this

theorem Effect.with_outputs (v) (k : Field.outputs ∈ F) (h : Effect F s t) : Effect F s { t with outputs := v } := by
  refine ⟨fun f hf => ?_, h.notices⟩
  have := h.only f hf
  cases f <;> first | exact absurd k hf | exact this

theorem Effect.with_audio (v) (k : Field.audio ∈ F) (h : Effect F s t) : Effect F s { t with audio := v } := by
  refine ⟨fun f hf => ?_, h.notices⟩
  have := h.only f hf
  cases f <;> first | exact absurd k hf | exact this

theorem Effect.with_monitor (v) (k : Field.monitor ∈ F) (h : Effect F s t) : Effect F s { t with monitor := v } := by
  refine ⟨fun f hf => ?_, h.notices⟩
  have := h.only f hf
  cases f <;> first | exact absurd k hf | exact this

end

theorem raise_effect (b : NoticeBody) (s : State) : Effect [.link] s (raise b s) := by
  refine ⟨fun f hf => ?_, .more _ .none⟩
  cases f <;> first | exact absurd (by decide) hf | rfl

theorem putGroup_effect (g : GroupId) (r : Group) (s : State) : Effect [.groups] s (s.putGroup g r) := by
  refine ⟨fun f hf => ?_, .none⟩
  cases f <;> first | exact absurd (by decide) hf | rfl

theorem putDemand_effect (g : GroupId) (r : Demand) (s : State) : Effect [.demand] s (s.putDemand g r) := by
  refine ⟨fun f hf => ?_, .none⟩
  cases f <;> first | exact absurd (by decide) hf | rfl

theorem putPreempt_effect (p : PreemptId) (r : Preempt) (s : State) : Effect [.preempt] s (s.putPreempt p r) := by
  refine ⟨fun f hf => ?_, .none⟩
  cases f <;> first | exact absurd (by decide) hf | rfl

theorem putAudio_effect (a : AudioId) (r : Audio) (s : State) : Effect [.audio] s (s.putAudio a r) := by
  refine ⟨fun f hf => ?_, .none⟩
  cases f <;> first | exact absurd (by decide) hf | rfl

theorem putStation_effect (st : StationId) (r : Station) (s : State) : Effect [.stations] s (s.putStation st r) := by
  refine ⟨fun f hf => ?_, .none⟩
  cases f <;> first | exact absurd (by decide) hf | rfl

theorem putSign_effect (n : SignId) (r : Sign) (s : State) : Effect [.signs] s (s.putSign n r) := by
  refine ⟨fun f hf => ?_, .none⟩
  cases f <;> first | exact absurd (by decide) hf | rfl

theorem putChannel_effect (c : ChannelId) (r : Channel) (s : State) : Effect [.channels] s (s.putChannel c r) := by
  refine ⟨fun f hf => ?_, .none⟩
  cases f <;> first | exact absurd (by decide) hf | rfl

theorem putOutput_effect (g : GroupId) (c : Colour) (o : Output) (s : State) : Effect [.outputs] s (s.putOutput g c o) := by
  refine ⟨fun f hf => ?_, .none⟩
  cases f <;> first | exact absurd (by decide) hf | rfl

theorem putQueue_effect (q : List Entry) (s : State) : Effect [.queue] s (s.putQueue q) := by
  refine ⟨fun f hf => ?_, .none⟩
  cases f <;> first | exact absurd (by decide) hf | rfl

theorem putFaults_effect (l : List FaultRecord) (s : State) : Effect [.faults] s (s.putFaults l) := by
  refine ⟨fun f hf => ?_, .none⟩
  cases f <;> first | exact absurd (by decide) hf | rfl

theorem putConditions_effect (l : List Condition) (s : State) : Effect [.monitor] s (s.putConditions l) := by
  refine ⟨fun f hf => ?_, .none⟩
  cases f <;> first | exact absurd (by decide) hf | rfl

theorem putClearance_effect (g : GroupId) (c : Clearance) (s : State) : Effect [.monitor] s (s.putClearance g c) := by
  refine ⟨fun f hf => ?_, .none⟩
  cases f <;> first | exact absurd (by decide) hf | rfl

theorem endCondition_effect (kind : FaultKind) (object : FaultObject) (s : State) : Effect [.monitor, .faults, .link] s (endCondition kind object s) := by
  unfold endCondition; try dsimp only
  repeat' first
      | with_reducible exact Effect.refl _ _
      | intro _
      | (with_reducible apply Effect.next (putFaults_effect _ _); · decide)
      | (with_reducible apply Effect.next (putConditions_effect _ _); · decide)
      | (with_reducible apply Effect.next (raise_effect _ _); · decide)
      | split

theorem driveLamps_effect (g : GroupId) (s : State) : Effect [.outputs] s (driveLamps g s) := by
  refine ⟨fun f hf => ?_, .none⟩
  cases f <;> first | exact absurd (by decide) hf | rfl

theorem driveAudio_effect (g : GroupId) (s : State) : Effect [.audio] s (driveAudio g s) := by
  refine ⟨fun f hf => ?_, .none⟩
  cases f <;> first | exact absurd (by decide) hf | rfl

theorem dropClearance_effect (g : GroupId) (s : State) : Effect [.monitor] s (dropClearance g s) := by
  unfold dropClearance; try dsimp only
  repeat' first
      | with_reducible exact Effect.refl _ _
      | intro _
      | (with_reducible apply Effect.next (putClearance_effect _ _ _); · decide)
      | split

theorem endRedOut_effect (g : GroupId) (s : State) : Effect [.monitor, .faults, .link] s (endRedOut g s) := by
  unfold endRedOut; try dsimp only
  repeat' first
      | with_reducible exact Effect.refl _ _
      | intro _
      | (with_reducible apply Effect.next (endCondition_effect _ _ _); · decide)
      | split

theorem changeGroup_effect (g : GroupId) (r : Group) (s : State) : Effect [.groups, .outputs, .audio, .monitor, .faults, .link] s (changeGroup g r s) := by
  unfold changeGroup; try dsimp only
  repeat' first
      | with_reducible exact Effect.refl _ _
      | intro _
      | (with_reducible apply Effect.next (putGroup_effect _ _ _); · decide)
      | (with_reducible apply Effect.next (driveLamps_effect _ _); · decide)
      | (with_reducible apply Effect.next (driveAudio_effect _ _); · decide)
      | (with_reducible apply Effect.next (dropClearance_effect _ _); · decide)
      | (with_reducible apply Effect.next (endRedOut_effect _ _); · decide)
      | split

theorem conflictAppears_effect (g : GroupId) (s : State) : Effect [.demand] s (conflictAppears g s) := by
  refine ⟨fun f hf => ?_, .none⟩
  cases f <;> first | exact absurd (by decide) hf | rfl

theorem latch_effect (g : GroupId) (x : Source) (s : State) : Effect [.demand, .link] s (latch g x s) := by
  unfold latch; try dsimp only
  repeat' first
      | with_reducible exact Effect.refl _ _
      | intro _
      | (with_reducible apply Effect.next (putDemand_effect _ _ _); · decide)
      | (with_reducible apply Effect.next (conflictAppears_effect _ _); · decide)
      | (with_reducible apply Effect.next (raise_effect _ _); · decide)
      | split

theorem greenStarted_effect (g : GroupId) (s : State) : Effect [.demand] s (greenStarted g s) := by
  unfold greenStarted; try dsimp only
  repeat' first
      | with_reducible exact Effect.refl _ _
      | intro _
      | (with_reducible apply Effect.next (putDemand_effect _ _ _); · decide)
      | split

theorem greenEnded_effect (g : GroupId) (reason : Reason) (policy : Option Policy) (duration : Nat) (s : State) : Effect [.demand, .link] s (greenEnded g reason policy duration s) := by
  unfold greenEnded; try dsimp only
  repeat' first
      | with_reducible exact Effect.refl _ _
      | intro _
      | (with_reducible apply Effect.next (putDemand_effect _ _ _); · decide)
      | (with_reducible apply Effect.next (conflictAppears_effect _ _); · decide)
      | (with_reducible apply Effect.next (raise_effect _ _); · decide)
      | split

theorem removeEntries_effect (which : Entry → Bool) (outcome : EntryOutcome) (s : State) : Effect [.queue, .link] s (removeEntries which outcome s) := by
  unfold removeEntries; try dsimp only
  repeat' first
      | with_reducible exact Effect.refl _ _
      | intro _
      | (with_reducible apply Effect.next (putQueue_effect _ _); · decide)
      | (with_reducible apply Effect.each)
      | (with_reducible apply Effect.next (raise_effect _ _); · decide)

theorem insertHead_effect (p : PreemptId) (list : List GroupId) (s : State) : Effect [.queue, .demand] s (insertHead p list s) := by
  unfold insertHead; try dsimp only
  repeat' first
      | with_reducible exact Effect.refl _ _
      | intro _
      | (with_reducible apply Effect.next (putQueue_effect _ _); · decide)
      | (with_reducible apply Effect.each)
      | (with_reducible apply Effect.next (conflictAppears_effect _ _); · decide)

theorem requeue_effect (g : GroupId) (s : State) : Effect [.queue, .demand] s (requeue g s) := by
  unfold requeue; try dsimp only
  repeat' first
      | with_reducible exact Effect.refl _ _
      | intro _
      | (with_reducible apply Effect.next (insertHead_effect _ _ _); · decide)
      | split

theorem countTruncated_effect (reason : Reason) (s : State) : Effect [.preempt] s (countTruncated reason s) := by
  unfold countTruncated; try dsimp only
  repeat' first
      | with_reducible exact Effect.refl _ _
      | intro _
      | (with_reducible apply Effect.next (putPreempt_effect _ _ _); · decide)
      | split

theorem terminate_effect (g : GroupId) (reason : Reason) (s : State) : Effect coreFields s (terminate g reason s) := by
  unfold terminate; try dsimp only
  repeat' first
      | with_reducible exact Effect.refl _ _
      | intro _
      | (with_reducible apply Effect.next (changeGroup_effect _ _ _); · decide)
      | (with_reducible apply Effect.next (greenEnded_effect _ _ _ _ _); · decide)
      | (with_reducible apply Effect.next (requeue_effect _ _); · decide)
      | (with_reducible apply Effect.next (countTruncated_effect _ _); · decide)
      | split

theorem truncateIfDue_effect (g : GroupId) (s : State) : Effect coreFields s (truncateIfDue g s) := by
  unfold truncateIfDue; try dsimp only
  repeat' first
      | with_reducible exact Effect.refl _ _
      | intro _
      | (with_reducible apply Effect.next (terminate_effect _ _ _); · decide)
      | split

theorem truncateAll_effect  (s : State) : Effect coreFields s (truncateAll s) := by
  unfold truncateAll; try dsimp only
  repeat' first
      | with_reducible exact Effect.refl _ _
      | intro _
      | (with_reducible apply Effect.each)
      | (with_reducible apply Effect.next (truncateIfDue_effect _ _); · decide)

theorem startGreen_effect (g : GroupId) (s : State) : Effect coreFields s (startGreen g s) := by
  unfold startGreen; try dsimp only
  repeat' first
      | with_reducible exact Effect.refl _ _
      | intro _
      | (with_reducible apply Effect.next (changeGroup_effect _ _ _); · decide)
      | (with_reducible apply Effect.next (greenStarted_effect _ _); · decide)
      | (with_reducible apply Effect.next (truncateIfDue_effect _ _); · decide)

theorem grant_effect (e : Entry) (s : State) : Effect coreFields s (grant e s) := by
  unfold grant; try dsimp only
  repeat' first
      | with_reducible exact Effect.refl _ _
      | intro _
      | (with_reducible apply Effect.next (putGroup_effect _ _ _); · decide)
      | (with_reducible apply Effect.next (putQueue_effect _ _); · decide)
      | (with_reducible apply Effect.next (changeGroup_effect _ _ _); · decide)
      | (with_reducible apply Effect.next (startGreen_effect _ _); · decide)
      | (with_reducible apply Effect.next (raise_effect _ _); · decide)
      | split

theorem impose_effect (target : GroupState) (g : GroupId) (s : State) : Effect [.groups, .outputs, .audio, .monitor, .faults, .link] s (impose target g s) := by
  unfold impose; try dsimp only
  repeat' first
      | with_reducible exact Effect.refl _ _
      | intro _
      | (with_reducible apply Effect.next (changeGroup_effect _ _ _); · decide)
      | split

theorem imposeAll_effect (target : GroupState) (s : State) : Effect [.groups, .outputs, .audio, .monitor, .faults, .link] s (imposeAll target s) := by
  unfold imposeAll; try dsimp only
  repeat' first
      | with_reducible exact Effect.refl _ _
      | intro _
      | (with_reducible apply Effect.each)
      | (with_reducible apply Effect.next (impose_effect _ _ _); · decide)

theorem failGroup_effect (g : GroupId) (s : State) : Effect [.groups, .demand, .outputs, .audio, .monitor, .faults, .link] s (failGroup g s) := by
  unfold failGroup; try dsimp only
  repeat' first
      | with_reducible exact Effect.refl _ _
      | intro _
      | (with_reducible apply Effect.next (changeGroup_effect _ _ _); · decide)
      | (with_reducible apply Effect.next (greenEnded_effect _ _ _ _ _); · decide)
      | split

theorem gapOut_effect (g : GroupId) (s : State) : Effect coreFields s (gapOut g s) := by
  unfold gapOut; try dsimp only
  repeat' first
      | with_reducible exact Effect.refl _ _
      | intro _
      | (with_reducible apply Effect.next (terminate_effect _ _ _); · decide)
      | split

theorem setGap_effect (g : GroupId) (gap : GapTimer) (s : State) : Effect [.demand] s (setGap g gap s) := by
  unfold setGap; try dsimp only
  repeat' first
      | with_reducible exact Effect.refl _ _
      | intro _
      | (with_reducible apply Effect.next (putDemand_effect _ _ _); · decide)
      | split

theorem reloadGap_effect (g : GroupId) (s : State) : Effect coreFields s (reloadGap g s) := by
  unfold reloadGap; try dsimp only
  repeat' first
      | with_reducible exact Effect.refl _ _
      | intro _
      | (with_reducible apply Effect.next (gapOut_effect _ _); · decide)
      | (with_reducible apply Effect.next (setGap_effect _ _ _); · decide)
      | split

theorem changeHold_effect (g : GroupId) (hold : List (ChannelId × HoldCause)) (s : State) : Effect coreFields s (changeHold g hold s) := by
  unfold changeHold; try dsimp only
  repeat' first
      | with_reducible exact Effect.refl _ _
      | intro _
      | (with_reducible apply Effect.next (putDemand_effect _ _ _); · decide)
      | (with_reducible apply Effect.next (gapOut_effect _ _); · decide)
      | (with_reducible apply Effect.next (setGap_effect _ _ _); · decide)
      | split

theorem joinHold_effect (g : GroupId) (c : ChannelId) (s : State) : Effect coreFields s (joinHold g c s) := by
  unfold joinHold; try dsimp only
  repeat' first
      | with_reducible exact Effect.refl _ _
      | intro _
      | (with_reducible apply Effect.next (changeHold_effect _ _ _); · decide)
      | split

theorem leaveHolds_effect (c : ChannelId) (s : State) : Effect coreFields s (leaveHolds c s) := by
  unfold leaveHolds; try dsimp only
  repeat' first
      | with_reducible exact Effect.refl _ _
      | intro _
      | (with_reducible apply Effect.each)
      | (with_reducible apply Effect.next (changeHold_effect _ _ _); · decide)
      | split

theorem signNotice_effect (n : SignId) (cause : SignCause) (s : State) : Effect [.link] s (signNotice n cause s) := by
  unfold signNotice; try dsimp only
  repeat' first
      | with_reducible exact Effect.refl _ _
      | intro _
      | (with_reducible apply Effect.next (raise_effect _ _); · decide)

theorem startTransfer_effect (n : SignId) (cause : SignCause) (s : State) : Effect [.signs, .link] s (startTransfer n cause s) := by
  unfold startTransfer; try dsimp only
  repeat' first
      | with_reducible exact Effect.refl _ _
      | intro _
      | (with_reducible apply Effect.next (putSign_effect _ _ _); · decide)
      | (with_reducible apply Effect.next (signNotice_effect _ _ _); · decide)

theorem setRestart_effect (n : SignId) (s : State) : Effect [.signs] s (setRestart n s) := by
  unfold setRestart; try dsimp only
  repeat' first
      | with_reducible exact Effect.refl _ _
      | intro _
      | (with_reducible apply Effect.next (putSign_effect _ _ _); · decide)

theorem suspendFresh_effect (n : SignId) (s : State) : Effect [.signs, .link] s (suspendFresh n s) := by
  unfold suspendFresh; try dsimp only
  repeat' first
      | with_reducible exact Effect.refl _ _
      | intro _
      | (with_reducible apply Effect.next (putSign_effect _ _ _); · decide)
      | (with_reducible apply Effect.next (signNotice_effect _ _ _); · decide)

theorem newContent_effect (n : SignId) (s : State) : Effect [.signs, .link] s (newContent n s) := by
  unfold newContent; try dsimp only
  repeat' first
      | with_reducible exact Effect.refl _ _
      | intro _
      | (with_reducible apply Effect.next (startTransfer_effect _ _ _); · decide)
      | (with_reducible apply Effect.next (setRestart_effect _ _); · decide)
      | (with_reducible apply Effect.next (suspendFresh_effect _ _); · decide)
      | split

theorem showPage_effect (n : SignId) (page : Showing) (s : State) : Effect [.signs, .link] s (showPage n page s) := by
  unfold showPage; try dsimp only
  repeat' first
      | with_reducible exact Effect.refl _ _
      | intro _
      | (with_reducible apply Effect.next (putSign_effect _ _ _); · decide)
      | (with_reducible apply Effect.next (newContent_effect _ _); · decide)
      | split

theorem showLinked_effect (p : PreemptId) (page : Showing) (s : State) : Effect [.signs, .link] s (showLinked p page s) := by
  unfold showLinked; try dsimp only
  repeat' first
      | with_reducible exact Effect.refl _ _
      | intro _
      | (with_reducible apply Effect.next (showPage_effect _ _ _); · decide)
      | split

theorem signLost_effect (n : SignId) (offline : Bool) (s : State) : Effect [.signs, .link] s (signLost n offline s) := by
  unfold signLost; try dsimp only
  repeat' first
      | with_reducible exact Effect.refl _ _
      | intro _
      | (with_reducible apply Effect.next (putSign_effect _ _ _); · decide)
      | (with_reducible apply Effect.next (signNotice_effect _ _ _); · decide)
      | (with_reducible apply Effect.next (suspendFresh_effect _ _); · decide)
      | split

theorem signBack_effect (n : SignId) (restored : Bool) (s : State) : Effect [.signs, .link] s (signBack n restored s) := by
  unfold signBack; try dsimp only
  repeat' first
      | with_reducible exact Effect.refl _ _
      | intro _
      | (with_reducible apply Effect.next (putSign_effect _ _ _); · decide)
      | (with_reducible apply Effect.next (signNotice_effect _ _ _); · decide)
      | (with_reducible apply Effect.next (startTransfer_effect _ _ _); · decide)
      | split

theorem restartNow_effect (n : SignId) (s : State) : Effect [.signs, .link] s (restartNow n s) := by
  unfold restartNow; try dsimp only
  repeat' first
      | with_reducible exact Effect.refl _ _
      | intro _
      | (with_reducible apply Effect.next (putSign_effect _ _ _); · decide)
      | (with_reducible apply Effect.next (signNotice_effect _ _ _); · decide)
      | (with_reducible apply Effect.next (startTransfer_effect _ _ _); · decide)
      | (with_reducible apply Effect.next (setRestart_effect _ _); · decide)
      | (with_reducible apply Effect.next (suspendFresh_effect _ _); · decide)
      | split

theorem signOutcome_effect (n : SignId) (job : Job) (good : Bool) (lost : Bool) (s : State) : Effect [.signs, .link] s (signOutcome n job good lost s) := by
  unfold signOutcome; try dsimp only
  repeat' first
      | with_reducible exact Effect.refl _ _
      | intro _
      | (with_reducible apply Effect.next (putSign_effect _ _ _); · decide)
      | (with_reducible apply Effect.next (signNotice_effect _ _ _); · decide)
      | (with_reducible apply Effect.next (restartNow_effect _ _); · decide)
      | split

theorem preemptNotice_effect (p : PreemptId) (cause : PreemptCause) (s : State) : Effect [.link] s (preemptNotice p cause s) := by
  unfold preemptNotice; try dsimp only
  repeat' first
      | with_reducible exact Effect.refl _ _
      | intro _
      | (with_reducible apply Effect.next (raise_effect _ _); · decide)

theorem holdBack_effect (q : PreemptId) (s : State) : Effect [.preempt, .link] s (holdBack q s) := by
  unfold holdBack; try dsimp only
  repeat' first
      | with_reducible exact Effect.refl _ _
      | intro _
      | (with_reducible apply Effect.next (putPreempt_effect _ _ _); · decide)
      | (with_reducible apply Effect.next (preemptNotice_effect _ _ _); · decide)
      | split

theorem enterDelay_effect (p : PreemptId) (cause : PreemptCause) (s : State) : Effect [.preempt, .link] s (enterDelay p cause s) := by
  unfold enterDelay; try dsimp only
  repeat' first
      | with_reducible exact Effect.refl _ _
      | intro _
      | (with_reducible apply Effect.next (putPreempt_effect _ _ _); · decide)
      | (with_reducible apply Effect.each)
      | (with_reducible apply Effect.next (preemptNotice_effect _ _ _); · decide)
      | (with_reducible apply Effect.next (holdBack_effect _ _); · decide)

theorem displace_effect (p : PreemptId) (q : PreemptId) (s : State) : Effect [.queue, .preempt, .signs, .link] s (displace p q s) := by
  unfold displace; try dsimp only
  repeat' first
      | with_reducible exact Effect.refl _ _
      | intro _
      | (with_reducible apply Effect.next (putPreempt_effect _ _ _); · decide)
      | (with_reducible apply Effect.next (removeEntries_effect _ _ _); · decide)
      | (with_reducible apply Effect.next (showLinked_effect _ _ _); · decide)
      | (with_reducible apply Effect.next (preemptNotice_effect _ _ _); · decide)
      | split

theorem enterClearing_effect (p : PreemptId) (cause : PreemptCause) (s : State) : Effect seqFields s (enterClearing p cause s) := by
  unfold enterClearing; try dsimp only
  repeat' first
      | with_reducible exact Effect.refl _ _
      | intro _
      | (with_reducible apply Effect.next (putPreempt_effect _ _ _); · decide)
      | (with_reducible apply Effect.each)
      | (with_reducible apply Effect.next (removeEntries_effect _ _ _); · decide)
      | (with_reducible apply Effect.next (insertHead_effect _ _ _); · decide)
      | (with_reducible apply Effect.next (truncateAll_effect _); · decide)
      | (with_reducible apply Effect.next (showLinked_effect _ _ _); · decide)
      | (with_reducible apply Effect.next (preemptNotice_effect _ _ _); · decide)
      | (with_reducible apply Effect.next (displace_effect _ _ _); · decide)

theorem enterTrack_effect (p : PreemptId) (s : State) : Effect [.preempt, .link] s (enterTrack p s) := by
  unfold enterTrack; try dsimp only
  repeat' first
      | with_reducible exact Effect.refl _ _
      | intro _
      | (with_reducible apply Effect.next (putPreempt_effect _ _ _); · decide)
      | (with_reducible apply Effect.next (preemptNotice_effect _ _ _); · decide)

theorem enterDwell_effect (p : PreemptId) (s : State) : Effect coreFields s (enterDwell p s) := by
  unfold enterDwell; try dsimp only
  repeat' first
      | with_reducible exact Effect.refl _ _
      | intro _
      | (with_reducible apply Effect.next (putPreempt_effect _ _ _); · decide)
      | (with_reducible apply Effect.next (insertHead_effect _ _ _); · decide)
      | (with_reducible apply Effect.next (truncateAll_effect _); · decide)
      | (with_reducible apply Effect.next (preemptNotice_effect _ _ _); · decide)

theorem startPending_effect (fromExit : Bool) (s : State) : Effect seqFields s (startPending fromExit s) := by
  unfold startPending; try dsimp only
  repeat' first
      | with_reducible exact Effect.refl _ _
      | intro _
      | (with_reducible apply Effect.next (enterDelay_effect _ _ _); · decide)
      | (with_reducible apply Effect.next (enterClearing_effect _ _ _); · decide)
      | split

theorem exitDwell_effect (p : PreemptId) (s : State) : Effect seqFields s (exitDwell p s) := by
  unfold exitDwell; try dsimp only
  repeat' first
      | with_reducible exact Effect.refl _ _
      | intro _
      | (with_reducible apply Effect.next (putPreempt_effect _ _ _); · decide)
      | (with_reducible apply Effect.next (putQueue_effect _ _); · decide)
      | (with_reducible apply Effect.next (showLinked_effect _ _ _); · decide)
      | (with_reducible apply Effect.next (preemptNotice_effect _ _ _); · decide)
      | (with_reducible apply Effect.next (startPending_effect _ _); · decide)

theorem passOn_effect (p : PreemptId) (s t : State) (h : passOn p s = some t) : Effect seqFields s t := by
  unfold passOn at h
  dsimp only at h
  have c (a b : State) (e : some a = some b) : a = b := Option.some.inj e
  split at h
  · split at h
    · rw [← c _ _ h]; exact (enterClearing_effect _ _ _).mono rfl
    · cases h
  · split at h
    · split at h
      · rw [← c _ _ h]; exact (enterDwell_effect _ _).mono rfl
      · cases h
    · split at h
      · rw [← c _ _ h]; exact (enterTrack_effect _ _).mono rfl
      · cases h
  · split at h
    · rw [← c _ _ h]; exact (enterDwell_effect _ _).mono rfl
    · cases h
  · split at h
    · rw [← c _ _ h]; exact (exitDwell_effect _ _).mono rfl
    · cases h
  · cases h

theorem react_effect (s t : State) (h : react s = some t) : Effect seqFields s t := by
  unfold react at h
  split at h
  · next s1 hs =>
    injection h with h; subst h
    obtain ⟨p, _, hp⟩ := List.exists_of_findSome?_eq_some hs
    exact passOn_effect p s _ hp
  · cases hg : findGrant s [] s.queue with
    | none => simp [hg] at h
    | some e =>
      simp only [hg, Option.map_some, Option.some.injEq] at h
      subst h
      exact (grant_effect e s).mono rfl

theorem settleIn_effect (n : Nat) (s : State) : Effect seqFields s (settleIn n s) := by
  induction n generalizing s with
  | zero => exact .refl _ _
  | succ n ih =>
    unfold settleIn
    split
    · exact .refl _ _
    · next s1 h => exact (react_effect s s1 h).trans (ih s1)

theorem settle_effect (s : State) : Effect seqFields s (settle s) := settleIn_effect _ s

/-- What holds before `settle` and is kept by each consequence holds after it. -/
theorem settle_keeps {P : State → Prop} (step : ∀ s t, react s = some t → P s → P t) (s : State) (h : P s) :
    P (settle s) := by
  unfold settle
  generalize Config.settleSteps = n
  induction n generalizing s with
  | zero => exact h
  | succ n ih =>
    unfold settleIn
    split
    · exact h
    · next s1 hs => exact ih s1 (step s s1 hs h)

/-- With no consequence to follow, `settle` changes nothing. -/
theorem settle_of_react_none (s : State) (h : react s = none) : settle s = s := by
  unfold settle Config.settleSteps settleIn
  rw [h]


theorem becomeAsserted_effect (p : PreemptId) (s : State) : Effect [.preempt, .link] s (becomeAsserted p s) := by
  unfold becomeAsserted; try dsimp only
  repeat' first
      | with_reducible exact Effect.refl _ _
      | intro _
      | (with_reducible apply Effect.next (putPreempt_effect _ _ _); · decide)
      | (with_reducible apply Effect.next (preemptNotice_effect _ _ _); · decide)
      | (with_reducible apply Effect.next (enterDelay_effect _ _ _); · decide)
      | split

theorem becomeReleased_effect (p : PreemptId) (s : State) : Effect seqFields s (becomeReleased p s) := by
  unfold becomeReleased; try dsimp only
  repeat' first
      | with_reducible exact Effect.refl _ _
      | intro _
      | (with_reducible apply Effect.next (putPreempt_effect _ _ _); · decide)
      | (with_reducible apply Effect.next (preemptNotice_effect _ _ _); · decide)
      | (with_reducible apply Effect.next (startPending_effect _ _); · decide)
      | (with_reducible apply Effect.next (exitDwell_effect _ _); · decide)
      | split

theorem changeSources_effect (p : PreemptId) (r : Preempt) (s : State) : Effect seqFields s (changeSources p r s) := by
  unfold changeSources; try dsimp only
  repeat' first
      | with_reducible exact Effect.refl _ _
      | intro _
      | (with_reducible apply Effect.next (putPreempt_effect _ _ _); · decide)
      | (with_reducible apply Effect.next (settle_effect _); · decide)
      | (with_reducible apply Effect.next (becomeAsserted_effect _ _); · decide)
      | (with_reducible apply Effect.next (becomeReleased_effect _ _); · decide)
      | split

theorem abandon_effect (p : PreemptId) (s : State) : Effect [.preempt, .signs, .link] s (abandon p s) := by
  unfold abandon; try dsimp only
  repeat' first
      | with_reducible exact Effect.refl _ _
      | intro _
      | (with_reducible apply Effect.next (putPreempt_effect _ _ _); · decide)
      | (with_reducible apply Effect.next (showLinked_effect _ _ _); · decide)
      | (with_reducible apply Effect.next (preemptNotice_effect _ _ _); · decide)
      | split

theorem leaveRun_effect (s : State) : Effect [.queue, .preempt, .signs, .link] s (leaveRun s) := by
  unfold leaveRun; dsimp only
  refine Effect.each (fun _ _ => (abandon_effect _ _).mono (by decide)) ?_
  exact Effect.with_preempt _ (by decide) ((removeEntries_effect _ _ _).mono (by decide))

theorem startHalf_effect (lit : Bool) (s : State) : Effect [.outputs, .flash] s (startHalf lit s) := by
  refine ⟨fun f hf => ?_, .none⟩
  cases f <;> first | exact absurd (by decide) hf | rfl

theorem restartFlash_effect (before : ModeRec) (s : State) : Effect [.outputs, .flash] s (restartFlash before s) := by
  unfold restartFlash; try dsimp only
  repeat' first
      | with_reducible exact Effect.refl _ _
      | intro _
      | (with_reducible apply Effect.next (startHalf_effect _ _); · decide)
      | split

theorem modeNotice_effect (before : Mode) (cause : ModeCause) (s : State) : Effect [.link] s (modeNotice before cause s) := by
  unfold modeNotice; try dsimp only
  repeat' first
      | with_reducible exact Effect.refl _ _
      | intro _
      | (with_reducible apply Effect.next (raise_effect _ _); · decide)

theorem setMode_effect (m : Mode) (s : State) : Effect [.mode, .working] s (setMode m s) := by
  refine ⟨fun f hf => ?_, .none⟩
  cases f <;> first | exact absurd (by decide) hf | rfl

theorem giveOrder_effect (m : Mode) (s : State) : Effect [.groups, .outputs, .audio, .monitor, .faults, .link] s (giveOrder m s) := by
  unfold giveOrder; try dsimp only
  repeat' first
      | with_reducible exact Effect.refl _ _
      | intro _
      | (with_reducible apply Effect.next (imposeAll_effect _ _); · decide)
      | split

theorem changeMode_effect (m : Mode) (cause : ModeCause) (s : State) : Effect [.mode, .working, .groups, .outputs, .flash, .audio, .monitor, .faults, .link] s (changeMode m cause s) := by
  unfold changeMode; try dsimp only
  repeat' first
      | with_reducible exact Effect.refl _ _
      | intro _
      | (with_reducible apply Effect.next (restartFlash_effect _ _); · decide)
      | (with_reducible apply Effect.next (modeNotice_effect _ _ _); · decide)
      | (with_reducible apply Effect.next (setMode_effect _ _); · decide)
      | (with_reducible apply Effect.next (giveOrder_effect _ _); · decide)

theorem enterRun_effect (cause : ModeCause) (s : State) : Effect modeFields s (enterRun cause s) := by
  unfold enterRun; try dsimp only
  repeat' first
      | with_reducible exact Effect.refl _ _
      | intro _
      | (with_reducible apply Effect.next (startPending_effect _ _); · decide)
      | (with_reducible apply Effect.next (settle_effect _); · decide)
      | (with_reducible apply Effect.next (changeMode_effect _ _ _); · decide)

theorem closeGreen_effect (g : GroupId) (s : State) : Effect coreFields s (closeGreen g s) := by
  unfold closeGreen; try dsimp only
  repeat' first
      | with_reducible exact Effect.refl _ _
      | intro _
      | (with_reducible apply Effect.next (terminate_effect _ _ _); · decide)
      | split

theorem closeCheck_effect  (s : State) : Effect [.mode] s (closeCheck s) := by
  unfold closeCheck; try dsimp only
  split
  · refine ⟨fun f hf => ?_, .none⟩
    cases f <;> first | exact absurd (by decide) hf | rfl
  · exact .refl _ _

theorem enterClosing_effect  (s : State) : Effect (.mode :: .working :: seqFields) s (enterClosing s) := by
  unfold enterClosing; try dsimp only
  repeat' first
      | with_reducible exact Effect.refl _ _
      | intro _
      | (with_reducible apply Effect.each)
      | (with_reducible apply Effect.next (leaveRun_effect _); · decide)
      | (with_reducible apply Effect.next (modeNotice_effect _ _ _); · decide)
      | (with_reducible apply Effect.next (setMode_effect _ _); · decide)
      | (with_reducible apply Effect.next (closeGreen_effect _ _); · decide)
      | (with_reducible apply Effect.next (closeCheck_effect _); · decide)

theorem failRun_effect (before : Mode) (s : State) : Effect [.queue, .preempt, .signs, .link] s (failRun before s) := by
  unfold failRun; try dsimp only
  repeat' first
      | with_reducible exact Effect.refl _ _
      | intro _
      | (with_reducible apply Effect.next (leaveRun_effect _); · decide)
      | split

theorem silenceAll_effect  (s : State) : Effect [.audio] s (silenceAll s) := by
  refine ⟨fun f hf => ?_, .none⟩
  cases f <;> first | exact absurd (by decide) hf | rfl

theorem enterFailFlash_effect  (s : State) : Effect modeFields s (enterFailFlash s) := by
  unfold enterFailFlash; try dsimp only
  repeat' first
      | with_reducible exact Effect.refl _ _
      | intro _
      | (with_reducible apply Effect.each)
      | (with_reducible apply Effect.next (failGroup_effect _ _); · decide)
      | (with_reducible apply Effect.next (restartFlash_effect _ _); · decide)
      | (with_reducible apply Effect.next (modeNotice_effect _ _ _); · decide)
      | (with_reducible apply Effect.next (setMode_effect _ _); · decide)
      | (with_reducible apply Effect.next (failRun_effect _ _); · decide)
      | (with_reducible apply Effect.next (silenceAll_effect _); · decide)

theorem leaveFailFlash_effect  (s : State) : Effect [.mode, .working, .groups, .outputs, .flash, .audio, .monitor, .faults, .link] s (leaveFailFlash s) := by
  unfold leaveFailFlash; try dsimp only
  repeat' first
      | with_reducible exact Effect.refl _ _
      | intro _
      | (with_reducible apply Effect.next (changeMode_effect _ _ _); · decide)
      | split

theorem tellMode_effect (r : FaultRecord) (s : State) : Effect modeFields s (tellMode r s) := by
  unfold tellMode; try dsimp only
  repeat' first
      | with_reducible exact Effect.refl _ _
      | intro _
      | (with_reducible apply Effect.next (enterFailFlash_effect _); · decide)
      | split

theorem occurrence_effect (c : Condition) (state : FaultState) (s : State) : Effect modeFields s (occurrence c state s) := by
  unfold occurrence; try dsimp only
  repeat' first
      | with_reducible exact Effect.refl _ _
      | intro _
      | (with_reducible apply Effect.next (putFaults_effect _ _); · decide)
      | (with_reducible apply Effect.next (tellMode_effect _ _); · decide)
      | (with_reducible apply Effect.next (raise_effect _ _); · decide)
      | split

theorem startCondition_effect (kind : FaultKind) (object : FaultObject) (s : State) : Effect modeFields s (startCondition kind object s) := by
  unfold startCondition; try dsimp only
  repeat' first
      | with_reducible exact Effect.refl _ _
      | intro _
      | (with_reducible apply Effect.next (putConditions_effect _ _); · decide)
      | (with_reducible apply Effect.next (occurrence_effect _ _ _); · decide)
      | split

theorem momentary_effect (kind : FaultKind) (object : FaultObject) (s : State) : Effect modeFields s (momentary kind object s) := by
  unfold momentary; try dsimp only
  repeat' first
      | with_reducible exact Effect.refl _ _
      | intro _
      | (with_reducible apply Effect.next (occurrence_effect _ _ _); · decide)
      | split

theorem checkRedOut_effect (g : GroupId) (s : State) : Effect modeFields s (checkRedOut g s) := by
  unfold checkRedOut; try dsimp only
  repeat' first
      | with_reducible exact Effect.refl _ _
      | intro _
      | (with_reducible apply Effect.next (endCondition_effect _ _ _); · decide)
      | (with_reducible apply Effect.next (startCondition_effect _ _ _); · decide)
      | split

theorem checkAllRedOut_effect  (s : State) : Effect modeFields s (checkAllRedOut s) := by
  unfold checkAllRedOut; try dsimp only
  repeat' first
      | with_reducible exact Effect.refl _ _
      | intro _
      | (with_reducible apply Effect.each)
      | (with_reducible apply Effect.next (checkRedOut_effect _ _); · decide)

theorem clearRecord_effect (r : FaultRecord) (s : State) : Effect [.faults, .link] s (clearRecord r s) := by
  unfold clearRecord; try dsimp only
  repeat' first
      | with_reducible exact Effect.refl _ _
      | intro _
      | (with_reducible apply Effect.next (putFaults_effect _ _); · decide)
      | (with_reducible apply Effect.next (raise_effect _ _); · decide)

theorem resetFaults_effect  (s : State) : Effect [.mode, .working, .groups, .outputs, .flash, .audio, .monitor, .faults, .link] s (resetFaults s) := by
  unfold resetFaults; try dsimp only
  repeat' first
      | with_reducible exact Effect.refl _ _
      | intro _
      | (with_reducible apply Effect.each)
      | (with_reducible apply Effect.next (leaveFailFlash_effect _); · decide)
      | (with_reducible apply Effect.next (clearRecord_effect _ _); · decide)

theorem validFrame_effect (s : State) : Effect [.mode, .monitor, .faults, .link] s (validFrame s) := by
  unfold validFrame; dsimp only
  refine Effect.next (endCondition_effect _ _ _) (by decide) ?_
  exact Effect.with_mode _ (by decide) (.refl _ _)

theorem compareOutput_effect (g : GroupId) (c : Colour) (s : State) : Effect [.outputs, .monitor, .faults, .link] s (compareOutput g c s) := by
  unfold compareOutput; try dsimp only
  repeat' first
      | with_reducible exact Effect.refl _ _
      | intro _
      | (with_reducible apply Effect.next (putOutput_effect _ _ _ _); · decide)
      | (with_reducible apply Effect.next (endCondition_effect _ _ _); · decide)
      | split

theorem endSettle_effect (g : GroupId) (c : Colour) (s : State) : Effect [.outputs, .monitor, .faults, .link] s (endSettle g c s) := by
  unfold endSettle; try dsimp only
  repeat' first
      | with_reducible exact Effect.refl _ _
      | intro _
      | (with_reducible apply Effect.next (putOutput_effect _ _ _ _); · decide)
      | (with_reducible apply Effect.next (compareOutput_effect _ _ _); · decide)

theorem raiseMismatch_effect (g : GroupId) (c : Colour) (s : State) : Effect modeFields s (raiseMismatch g c s) := by
  unfold raiseMismatch; try dsimp only
  repeat' first
      | with_reducible exact Effect.refl _ _
      | intro _
      | (with_reducible apply Effect.next (putOutput_effect _ _ _ _); · decide)
      | (with_reducible apply Effect.next (startCondition_effect _ _ _); · decide)

theorem putOverlaps_effect (l : List Overlap) (s : State) : Effect [.monitor] s (s.putOverlaps l) := by
  refine ⟨fun f hf => ?_, .none⟩
  cases f <;> first | exact absurd (by decide) hf | rfl

theorem beginOverlap_effect (i : GroupId) (j : GroupId) (s : State) : Effect [.monitor] s (beginOverlap i j s) := by
  unfold beginOverlap; try dsimp only
  repeat' first
      | with_reducible exact Effect.refl _ _
      | intro _
      | (with_reducible apply Effect.next (putOverlaps_effect _ _); · decide)
      | split

theorem endOverlaps_effect (which : Overlap → Bool) (s : State) : Effect [.monitor, .faults, .link] s (endOverlaps which s) := by
  unfold endOverlaps; try dsimp only
  repeat' first
      | with_reducible exact Effect.refl _ _
      | intro _
      | (with_reducible apply Effect.each)
      | (with_reducible apply Effect.next (endCondition_effect _ _ _); · decide)
      | (with_reducible apply Effect.next (putOverlaps_effect _ _); · decide)

theorem watchGreen_effect (g : GroupId) (s : State) : Effect [.monitor, .faults, .link] s (watchGreen g s) := by
  unfold watchGreen; try dsimp only
  repeat' first
      | with_reducible exact Effect.refl _ _
      | intro _
      | (with_reducible apply Effect.each)
      | (with_reducible apply Effect.next (beginOverlap_effect _ _ _); · decide)
      | (with_reducible apply Effect.next (endOverlaps_effect _ _); · decide)
      | split

theorem renewOverlaps_effect  (s : State) : Effect [.monitor, .faults, .link] s (renewOverlaps s) := by
  unfold renewOverlaps; try dsimp only
  repeat' first
      | with_reducible exact Effect.refl _ _
      | intro _
      | (with_reducible apply Effect.each)
      | (with_reducible apply Effect.next (beginOverlap_effect _ _ _); · decide)
      | (with_reducible apply Effect.next (endOverlaps_effect _ _); · decide)
      | split

theorem raiseConflict_effect (low : GroupId) (high : GroupId) (s : State) : Effect modeFields s (raiseConflict low high s) := by
  unfold raiseConflict; try dsimp only
  repeat' first
      | with_reducible exact Effect.refl _ _
      | intro _
      | (with_reducible apply Effect.next (startCondition_effect _ _ _); · decide)
      | (with_reducible apply Effect.next (putOverlaps_effect _ _); · decide)

theorem armClearance_effect (g : GroupId) (s : State) : Effect [.monitor] s (armClearance g s) := by
  unfold armClearance; try dsimp only
  repeat' first
      | with_reducible exact Effect.refl _ _
      | intro _
      | (with_reducible apply Effect.next (putClearance_effect _ _ _); · decide)
      | split

theorem startClearance_effect (g : GroupId) (s : State) : Effect [.monitor] s (startClearance g s) := by
  unfold startClearance; try dsimp only
  repeat' first
      | with_reducible exact Effect.refl _ _
      | intro _
      | (with_reducible apply Effect.next (putClearance_effect _ _ _); · decide)
      | split

theorem judgeClearance_effect (g : GroupId) (s : State) : Effect modeFields s (judgeClearance g s) := by
  unfold judgeClearance; try dsimp only
  repeat' first
      | with_reducible exact Effect.refl _ _
      | intro _
      | (with_reducible apply Effect.next (putClearance_effect _ _ _); · decide)
      | (with_reducible apply Effect.next (momentary_effect _ _ _); · decide)
      | split

theorem watchClearance_effect (g : GroupId) (c : Colour) (s : State) : Effect modeFields s (watchClearance g c s) := by
  unfold watchClearance; try dsimp only
  repeat' first
      | with_reducible exact Effect.refl _ _
      | intro _
      | (with_reducible apply Effect.next (armClearance_effect _ _); · decide)
      | (with_reducible apply Effect.next (startClearance_effect _ _); · decide)
      | (with_reducible apply Effect.next (judgeClearance_effect _ _); · decide)
      | split

theorem senseOutput_effect (g : GroupId) (c : Colour) (present : Bool) (s : State) : Effect modeFields s (senseOutput g c present s) := by
  unfold senseOutput; try dsimp only
  repeat' first
      | with_reducible exact Effect.refl _ _
      | intro _
      | (with_reducible apply Effect.next (putOutput_effect _ _ _ _); · decide)
      | (with_reducible apply Effect.next (compareOutput_effect _ _ _); · decide)
      | (with_reducible apply Effect.next (watchGreen_effect _ _); · decide)
      | (with_reducible apply Effect.next (watchClearance_effect _ _ _); · decide)
      | split

theorem healthChanged_effect (g : GroupId) (c : Colour) (before : Health) (after : Health) (s : State) : Effect modeFields s (healthChanged g c before after s) := by
  unfold healthChanged; try dsimp only
  repeat' first
      | with_reducible exact Effect.refl _ _
      | intro _
      | (with_reducible apply Effect.next (endCondition_effect _ _ _); · decide)
      | (with_reducible apply Effect.next (startCondition_effect _ _ _); · decide)
      | (with_reducible apply Effect.next (checkRedOut_effect _ _); · decide)
      | split

theorem checkCurrent_effect (g : GroupId) (c : Colour) (measured : Nat) (s : State) : Effect modeFields s (checkCurrent g c measured s) := by
  unfold checkCurrent; try dsimp only
  repeat' first
      | with_reducible exact Effect.refl _ _
      | intro _
      | (with_reducible apply Effect.next (putOutput_effect _ _ _ _); · decide)
      | (with_reducible apply Effect.next (healthChanged_effect _ _ _ _ _); · decide)
      | split

theorem failForGroup_effect (c : ChannelId) (g : GroupId) (s : State) : Effect coreFields s (failForGroup c g s) := by
  unfold failForGroup; try dsimp only
  repeat' first
      | with_reducible exact Effect.refl _ _
      | intro _
      | (with_reducible apply Effect.next (putDemand_effect _ _ _); · decide)
      | (with_reducible apply Effect.next (latch_effect _ _ _); · decide)
      | (with_reducible apply Effect.next (changeHold_effect _ _ _); · decide)
      | split

theorem failForPreempt_effect (c : ChannelId) (p : PreemptId) (s : State) : Effect seqFields s (failForPreempt c p s) := by
  unfold failForPreempt; try dsimp only
  repeat' first
      | with_reducible exact Effect.refl _ _
      | intro _
      | (with_reducible apply Effect.next (changeSources_effect _ _ _); · decide)

theorem reportFailure_effect (c : ChannelId) (named : Option Named) (s : State) : Effect seqFields s (reportFailure c named s) := by
  unfold reportFailure; try dsimp only
  repeat' first
      | with_reducible exact Effect.refl _ _
      | intro _
      | (with_reducible apply Effect.each)
      | (with_reducible apply Effect.next (leaveHolds_effect _ _); · decide)
      | (with_reducible apply Effect.next (failForGroup_effect _ _ _); · decide)
      | (with_reducible apply Effect.next (failForPreempt_effect _ _ _); · decide)
      | split

theorem recoverForGroup_effect (c : ChannelId) (g : GroupId) (s : State) : Effect coreFields s (recoverForGroup c g s) := by
  unfold recoverForGroup; try dsimp only
  repeat' first
      | with_reducible exact Effect.refl _ _
      | intro _
      | (with_reducible apply Effect.next (putDemand_effect _ _ _); · decide)
      | (with_reducible apply Effect.next (changeHold_effect _ _ _); · decide)

theorem recoverForPreempt_effect (c : ChannelId) (p : PreemptId) (s : State) : Effect seqFields s (recoverForPreempt c p s) := by
  unfold recoverForPreempt; try dsimp only
  repeat' first
      | with_reducible exact Effect.refl _ _
      | intro _
      | (with_reducible apply Effect.next (changeSources_effect _ _ _); · decide)

theorem reportRecovery_effect (c : ChannelId) (named : Option Named) (s : State) : Effect seqFields s (reportRecovery c named s) := by
  unfold reportRecovery; try dsimp only
  repeat' first
      | with_reducible exact Effect.refl _ _
      | intro _
      | (with_reducible apply Effect.each)
      | (with_reducible apply Effect.next (recoverForGroup_effect _ _ _); · decide)
      | (with_reducible apply Effect.next (recoverForPreempt_effect _ _ _); · decide)
      | split

theorem channelNotice_effect (c : ChannelId) (cause : ChannelCause) (named : Option Named) (s : State) : Effect [.link] s (channelNotice c cause named s) := by
  unfold channelNotice; try dsimp only
  repeat' first
      | with_reducible exact Effect.refl _ _
      | intro _
      | (with_reducible apply Effect.next (raise_effect _ _); · decide)

theorem failChannel_effect (cause : FailCause) (c : ChannelId) (s : State) : Effect (.channels :: modeFields) s (failChannel cause c s) := by
  unfold failChannel; try dsimp only
  repeat' first
      | with_reducible exact Effect.refl _ _
      | intro _
      | (with_reducible apply Effect.next (putChannel_effect _ _ _); · decide)
      | (with_reducible apply Effect.next (startCondition_effect _ _ _); · decide)
      | (with_reducible apply Effect.next (reportFailure_effect _ _ _); · decide)
      | (with_reducible apply Effect.next (channelNotice_effect _ _ _ _); · decide)

theorem recoverChannel_effect (cause : ChannelCause) (c : ChannelId) (s : State) : Effect (.channels :: seqFields) s (recoverChannel cause c s) := by
  unfold recoverChannel; try dsimp only
  repeat' first
      | with_reducible exact Effect.refl _ _
      | intro _
      | (with_reducible apply Effect.next (putChannel_effect _ _ _); · decide)
      | (with_reducible apply Effect.next (endCondition_effect _ _ _); · decide)
      | (with_reducible apply Effect.next (reportRecovery_effect _ _ _); · decide)
      | (with_reducible apply Effect.next (channelNotice_effect _ _ _ _); · decide)

theorem vacateChannel_effect (c : ChannelId) (s : State) : Effect (.channels :: coreFields) s (vacateChannel c s) := by
  unfold vacateChannel; try dsimp only
  repeat' first
      | with_reducible exact Effect.refl _ _
      | intro _
      | (with_reducible apply Effect.next (putChannel_effect _ _ _); · decide)
      | (with_reducible apply Effect.next (leaveHolds_effect _ _); · decide)

theorem loseChannels_effect (st : StationId) (s : State) : Effect (.channels :: modeFields) s (loseChannels st s) := by
  unfold loseChannels; try dsimp only
  repeat' first
      | with_reducible exact Effect.refl _ _
      | intro _
      | (with_reducible apply Effect.each)
      | (with_reducible apply Effect.next (failChannel_effect _ _ _); · decide)
      | split

theorem returnChannels_effect (st : StationId) (s : State) : Effect (.channels :: seqFields) s (returnChannels st s) := by
  unfold returnChannels; try dsimp only
  repeat' first
      | with_reducible exact Effect.refl _ _
      | intro _
      | (with_reducible apply Effect.each)
      | (with_reducible apply Effect.next (recoverChannel_effect _ _ _); · decide)
      | split

theorem chirpGroup_effect (g : GroupId) (s : State) : Effect [.audio] s (chirpGroup g s) := by
  unfold chirpGroup; try dsimp only
  split
  · refine ⟨fun f hf => ?_, .none⟩
    cases f <;> first | exact absurd (by decide) hf | rfl
  · exact .refl _ _

theorem deliverExtend_effect (c : ChannelId) (kind : EventKind) (g : GroupId) (s : State) : Effect coreFields s (deliverExtend c kind g s) := by
  unfold deliverExtend; try dsimp only
  repeat' first
      | with_reducible exact Effect.refl _ _
      | intro _
      | (with_reducible apply Effect.next (reloadGap_effect _ _); · decide)
      | (with_reducible apply Effect.next (joinHold_effect _ _ _); · decide)
      | split

theorem deliverCallExtend_effect (c : ChannelId) (kind : EventKind) (g : GroupId) (s : State) : Effect coreFields s (deliverCallExtend c kind g s) := by
  unfold deliverCallExtend; try dsimp only
  repeat' first
      | with_reducible exact Effect.refl _ _
      | intro _
      | (with_reducible apply Effect.next (latch_effect _ _ _); · decide)
      | (with_reducible apply Effect.next (joinHold_effect _ _ _); · decide)
      | (with_reducible apply Effect.next (deliverExtend_effect _ _ _ _); · decide)
      | split

theorem deliverCall_effect (kind : EventKind) (g : GroupId) (s : State) : Effect [.demand, .link] s (deliverCall kind g s) := by
  unfold deliverCall; try dsimp only
  repeat' first
      | with_reducible exact Effect.refl _ _
      | intro _
      | (with_reducible apply Effect.next (latch_effect _ _ _); · decide)
      | split

theorem deliverPed_effect (kind : EventKind) (g : GroupId) (s : State) : Effect [.demand, .audio, .link] s (deliverPed kind g s) := by
  unfold deliverPed; try dsimp only
  repeat' first
      | with_reducible exact Effect.refl _ _
      | intro _
      | (with_reducible apply Effect.next (chirpGroup_effect _ _); · decide)
      | (with_reducible apply Effect.next (deliverCall_effect _ _ _); · decide)
      | split

theorem deliverPreempt_effect (c : ChannelId) (kind : EventKind) (p : PreemptId) (s : State) : Effect seqFields s (deliverPreempt c kind p s) := by
  unfold deliverPreempt; try dsimp only
  repeat' first
      | with_reducible exact Effect.refl _ _
      | intro _
      | (with_reducible apply Effect.next (changeSources_effect _ _ _); · decide)
      | split

theorem deliverForward_effect (c : ChannelId) (kind : EventKind) (s : State) : Effect [.link] s (deliverForward c kind s) := by
  unfold deliverForward; try dsimp only
  repeat' first
      | with_reducible exact Effect.refl _ _
      | intro _
      | (with_reducible apply Effect.next (raise_effect _ _); · decide)

theorem deliver_effect (e : AcceptEntry) (c : ChannelId) (kind : EventKind) (s : State) : Effect seqFields s (deliver e c kind s) := by
  unfold deliver; try dsimp only
  repeat' first
      | with_reducible exact Effect.refl _ _
      | intro _
      | (with_reducible apply Effect.each)
      | (with_reducible apply Effect.next (deliverExtend_effect _ _ _ _); · decide)
      | (with_reducible apply Effect.next (deliverCallExtend_effect _ _ _ _); · decide)
      | (with_reducible apply Effect.next (deliverCall_effect _ _ _); · decide)
      | (with_reducible apply Effect.next (deliverPed_effect _ _ _); · decide)
      | (with_reducible apply Effect.next (deliverPreempt_effect _ _ _ _); · decide)
      | (with_reducible apply Effect.next (deliverForward_effect _ _ _); · decide)
      | split

theorem matchEvent_effect (c : ChannelId) (kind : EventKind) (s : State) : Effect seqFields s (matchEvent c kind s) := by
  unfold matchEvent; try dsimp only
  repeat' first
      | with_reducible exact Effect.refl _ _
      | intro _
      | (with_reducible apply Effect.next (deliver_effect _ _ _ _); · decide)
      | split

theorem changeByEvent_effect (c : ChannelId) (kind : EventKind) (s : State) : Effect (.channels :: modeFields) s (changeByEvent c kind s) := by
  unfold changeByEvent; try dsimp only
  repeat' first
      | with_reducible exact Effect.refl _ _
      | intro _
      | (with_reducible apply Effect.next (putChannel_effect _ _ _); · decide)
      | (with_reducible apply Effect.next (failChannel_effect _ _ _); · decide)
      | (with_reducible apply Effect.next (recoverChannel_effect _ _ _); · decide)
      | (with_reducible apply Effect.next (vacateChannel_effect _ _); · decide)
      | split

theorem takeChannelEvent_effect (c : ChannelId) (kind : EventKind) (s : State) : Effect (.channels :: modeFields) s (takeChannelEvent c kind s) := by
  unfold takeChannelEvent; try dsimp only
  repeat' first
      | with_reducible exact Effect.refl _ _
      | intro _
      | (with_reducible apply Effect.next (settle_effect _); · decide)
      | (with_reducible apply Effect.next (matchEvent_effect _ _ _); · decide)
      | (with_reducible apply Effect.next (changeByEvent_effect _ _ _); · decide)
      | split

theorem takeEvent_effect (st : StationId) (channel : Nat) (kind : Nat) (s : State) : Effect (.channels :: modeFields) s (takeEvent st channel kind s) := by
  unfold takeEvent; try dsimp only
  repeat' first
      | with_reducible exact Effect.refl _ _
      | intro _
      | (with_reducible apply Effect.next (takeChannelEvent_effect _ _ _); · decide)
      | split

theorem expireStuck_effect (c : ChannelId) (s : State) : Effect (.channels :: modeFields) s (expireStuck c s) := by
  unfold expireStuck; try dsimp only
  repeat' first
      | with_reducible exact Effect.refl _ _
      | intro _
      | (with_reducible apply Effect.next (settle_effect _); · decide)
      | (with_reducible apply Effect.next (failChannel_effect _ _ _); · decide)

theorem putBus_effect (b : Bus) (s : State) : Effect [.bus] s (s.putBus b) := by
  refine ⟨fun f hf => ?_, .none⟩
  cases f <;> first | exact absurd (by decide) hf | rfl

theorem beginTransaction_effect (st : StationId) (job : Job) (s : State) : Effect [.bus] s (beginTransaction st job s) := by
  unfold beginTransaction; try dsimp only
  repeat' first
      | with_reducible exact Effect.refl _ _
      | intro _
      | (with_reducible apply Effect.next (putBus_effect _ _); · decide)

theorem grantSign_effect (n : SignId) (s : State) : Effect [.bus] s (grantSign n s) := by
  unfold grantSign; try dsimp only
  repeat' first
      | with_reducible exact Effect.refl _ _
      | intro _
      | (with_reducible apply Effect.next (putBus_effect _ _); · decide)
      | (with_reducible apply Effect.next (beginTransaction_effect _ _ _); · decide)
      | split

theorem arbitrate_effect  (s : State) : Effect [.bus] s (arbitrate s) := by
  unfold arbitrate; try dsimp only
  repeat' first
      | with_reducible exact Effect.refl _ _
      | intro _
      | (with_reducible apply Effect.next (beginTransaction_effect _ _ _); · decide)
      | (with_reducible apply Effect.next (grantSign_effect _ _); · decide)
      | split

theorem cycleStart_effect  (s : State) : Effect [.stations, .bus] s (cycleStart s) := by
  refine ⟨fun f hf => ?_, .none⟩
  cases f <;> first | exact absurd (by decide) hf | rfl

theorem cycleHalf_effect  (s : State) : Effect [.stations, .bus] s (cycleHalf s) := by
  refine ⟨fun f hf => ?_, .none⟩
  cases f <;> first | exact absurd (by decide) hf | rfl

theorem stationNotice_effect (st : StationId) (cause : StationCause) (s : State) : Effect [.link] s (stationNotice st cause s) := by
  unfold stationNotice; try dsimp only
  repeat' first
      | with_reducible exact Effect.refl _ _
      | intro _
      | (with_reducible apply Effect.next (raise_effect _ _); · decide)

theorem forSignOn_effect {F : List Field} {st : StationId} {f : SignId → State → State} {s t : State}
    (h : ∀ n u, Effect F u (f n u)) (k : Effect F s t) : Effect F s (forSignOn st f t) := by
  unfold forSignOn
  split
  · exact k
  · exact k.trans (h _ _)

theorem tellLost_effect (st : StationId) (s : State) : Effect (.channels :: modeFields) s (tellLost st s) := by
  unfold tellLost; try dsimp only
  repeat' first
      | with_reducible exact Effect.refl _ _
      | intro _
      | (with_reducible apply Effect.next (loseChannels_effect _ _); · decide)
      | split

theorem tellReturned_effect (st : StationId) (s : State) : Effect (.channels :: seqFields) s (tellReturned st s) := by
  unfold tellReturned; try dsimp only
  repeat' first
      | with_reducible exact Effect.refl _ _
      | intro _
      | (with_reducible apply Effect.next (settle_effect _); · decide)
      | (with_reducible apply Effect.next (returnChannels_effect _ _); · decide)
      | split

theorem startSuspendFault_effect (st : StationId) (s : State) : Effect modeFields s (startSuspendFault st s) := by
  unfold startSuspendFault; try dsimp only
  repeat' first
      | with_reducible exact Effect.refl _ _
      | intro _
      | (with_reducible apply Effect.next (startCondition_effect _ _ _); · decide)
      | with_reducible apply forSignOn_effect
      | split

theorem endSuspendFault_effect (st : StationId) (s : State) : Effect [.monitor, .faults, .link] s (endSuspendFault st s) := by
  unfold endSuspendFault; try dsimp only
  repeat' first
      | with_reducible exact Effect.refl _ _
      | intro _
      | (with_reducible apply Effect.next (endCondition_effect _ _ _); · decide)
      | with_reducible apply forSignOn_effect
      | split

theorem reportState_effect (st : StationId) (before : Option StationState) (after : Option StationState) (s : State) : Effect (.channels :: modeFields) s (reportState st before after s) := by
  unfold reportState; try dsimp only
  repeat' first
      | with_reducible exact Effect.refl _ _
      | intro _
      | (with_reducible apply Effect.next (signLost_effect _ _ _); · decide)
      | (with_reducible apply Effect.next (settle_effect _); · decide)
      | (with_reducible apply Effect.next (startCondition_effect _ _ _); · decide)
      | (with_reducible apply Effect.next (stationNotice_effect _ _ _); · decide)
      | (with_reducible apply Effect.next (tellLost_effect _ _); · decide)
      | (with_reducible apply Effect.next (startSuspendFault_effect _ _); · decide)
      | with_reducible apply forSignOn_effect
      | split

theorem reportWarning_effect (st : StationId) (before : Bool) (after : Bool) (s : State) : Effect [.link] s (reportWarning st before after s) := by
  unfold reportWarning; try dsimp only
  repeat' first
      | with_reducible exact Effect.refl _ _
      | intro _
      | (with_reducible apply Effect.next (stationNotice_effect _ _ _); · decide)
      | split

theorem handOver_effect (t : Transaction) (v : Verdict) (lost : Bool) (s : State) : Effect (.channels :: modeFields) s (handOver t v lost s) := by
  unfold handOver; try dsimp only
  repeat' first
      | with_reducible exact Effect.refl _ _
      | intro _
      | (with_reducible apply Effect.each)
      | (with_reducible apply Effect.next (signOutcome_effect _ _ _ _ _); · decide)
      | (with_reducible apply Effect.next (takeEvent_effect _ _ _ _); · decide)
      | split

theorem endTransaction_effect (t : Transaction) (v : Verdict) (s : State) : Effect (.stations :: .bus :: .channels :: modeFields) s (endTransaction t v s) := by
  unfold endTransaction; try dsimp only
  repeat' first
      | with_reducible exact Effect.refl _ _
      | intro _
      | (with_reducible apply Effect.next (putStation_effect _ _ _); · decide)
      | (with_reducible apply Effect.next (putBus_effect _ _); · decide)
      | (with_reducible apply Effect.next (reportState_effect _ _ _ _); · decide)
      | (with_reducible apply Effect.next (reportWarning_effect _ _ _ _); · decide)
      | (with_reducible apply Effect.next (handOver_effect _ _ _ _); · decide)
      | split

theorem takeWait_effect (t : Transaction) (s : State) : Effect (.stations :: .bus :: .channels :: modeFields) s (takeWait t s) := by
  unfold takeWait; try dsimp only
  repeat' first
      | with_reducible exact Effect.refl _ _
      | intro _
      | (with_reducible apply Effect.next (putBus_effect _ _); · decide)
      | (with_reducible apply Effect.next (endTransaction_effect _ _ _); · decide)
      | split

theorem takeReply_effect (t : Transaction) (bytes : List Byte) (s : State) : Effect (.stations :: .bus :: .channels :: modeFields) s (takeReply t bytes s) := by
  unfold takeReply; try dsimp only
  repeat' first
      | with_reducible exact Effect.refl _ _
      | intro _
      | (with_reducible apply Effect.next (endTransaction_effect _ _ _); · decide)
      | (with_reducible apply Effect.next (takeWait_effect _ _); · decide)
      | split

theorem restoreStation_effect (st : StationId) (s : State) : Effect (.stations :: .channels :: seqFields) s (restoreStation st s) := by
  unfold restoreStation; try dsimp only
  repeat' first
      | with_reducible exact Effect.refl _ _
      | intro _
      | (with_reducible apply Effect.next (putStation_effect _ _ _); · decide)
      | (with_reducible apply Effect.next (endCondition_effect _ _ _); · decide)
      | (with_reducible apply Effect.next (signBack_effect _ _ _); · decide)
      | (with_reducible apply Effect.next (stationNotice_effect _ _ _); · decide)
      | (with_reducible apply Effect.next (tellReturned_effect _ _); · decide)
      | with_reducible apply forSignOn_effect

theorem clearStation_effect (st : StationId) (s : State) : Effect (.stations :: .channels :: seqFields) s (clearStation st s) := by
  unfold clearStation; try dsimp only
  repeat' first
      | with_reducible exact Effect.refl _ _
      | intro _
      | (with_reducible apply Effect.next (putStation_effect _ _ _); · decide)
      | (with_reducible apply Effect.next (signBack_effect _ _ _); · decide)
      | (with_reducible apply Effect.next (stationNotice_effect _ _ _); · decide)
      | (with_reducible apply Effect.next (tellReturned_effect _ _); · decide)
      | (with_reducible apply Effect.next (endSuspendFault_effect _ _); · decide)
      | with_reducible apply forSignOn_effect

theorem setLevel_effect (level : Nat) (s : State) : Effect [.outputs, .dimming, .audio] s (setLevel level s) := by
  refine ⟨fun f hf => ?_, .none⟩
  cases f <;> first | exact absurd (by decide) hf | rfl

theorem putRamp_effect (r : Option Ramp) (s : State) : Effect [.dimming] s (s.putRamp r) := by
  refine ⟨fun f hf => ?_, .none⟩
  cases f <;> first | exact absurd (by decide) hf | rfl

theorem startDim_effect (target : Nat) (interval : DimInterval) (s : State) : Effect [.dimming] s (startDim target interval s) := by
  unfold startDim; try dsimp only
  repeat' first
      | with_reducible exact Effect.refl _ _
      | intro _
      | (with_reducible apply Effect.next (putRamp_effect _ _); · decide)
      | split

theorem rampStep_effect  (s : State) : Effect [.outputs, .dimming, .audio] s (rampStep s) := by
  unfold rampStep; try dsimp only
  repeat' first
      | with_reducible exact Effect.refl _ _
      | intro _
      | (with_reducible apply Effect.next (setLevel_effect _ _); · decide)
      | (with_reducible apply Effect.next (putRamp_effect _ _); · decide)
      | split

theorem resetDim_effect  (s : State) : Effect [.outputs, .dimming, .audio] s (resetDim s) := by
  unfold resetDim; try dsimp only
  repeat' first
      | with_reducible exact Effect.refl _ _
      | intro _
      | (with_reducible apply Effect.next (setLevel_effect _ _); · decide)
      | (with_reducible apply Effect.next (putRamp_effect _ _); · decide)
      | split

theorem flipHalf_effect  (s : State) : Effect [.outputs, .flash] s (flipHalf s) := by
  unfold flipHalf; try dsimp only
  repeat' first
      | with_reducible exact Effect.refl _ _
      | intro _
      | (with_reducible apply Effect.next (startHalf_effect _ _); · decide)

theorem endChirp_effect (a : AudioId) (s : State) : Effect [.audio] s (endChirp a s) := by
  unfold endChirp; try dsimp only
  repeat' first
      | with_reducible exact Effect.refl _ _
      | intro _
      | (with_reducible apply Effect.next (putAudio_effect _ _ _); · decide)

theorem publish_effect (n : SignId) (cells : List Nat) (s : State) : Effect [.signs, .link] s (publish n cells s) := by
  unfold publish; try dsimp only
  repeat' first
      | with_reducible exact Effect.refl _ _
      | intro _
      | (with_reducible apply Effect.next (putSign_effect _ _ _); · decide)
      | (with_reducible apply Effect.next (newContent_effect _ _); · decide)
      | split

theorem joinQueue_effect (g : GroupId) (policy : Policy) (override : Option Nat) (s : State) : Effect seqFields s (joinQueue g policy override s) := by
  unfold joinQueue; try dsimp only
  repeat' first
      | with_reducible exact Effect.refl _ _
      | intro _
      | (with_reducible apply Effect.next (putQueue_effect _ _); · decide)
      | (with_reducible apply Effect.next (conflictAppears_effect _ _); · decide)
      | (with_reducible apply Effect.next (settle_effect _); · decide)

theorem holdLeave_effect (g : GroupId) (s : State) : Effect [.groups] s (holdLeave g s) := by
  unfold holdLeave; try dsimp only
  repeat' first
      | with_reducible exact Effect.refl _ _
      | intro _
      | (with_reducible apply Effect.next (putGroup_effect _ _ _); · decide)

theorem applyCall_effect (g : GroupId) (call : CallChange) (s : State) : Effect [.demand, .link] s (applyCall g call s) := by
  unfold applyCall; try dsimp only
  repeat' first
      | with_reducible exact Effect.refl _ _
      | intro _
      | (with_reducible apply Effect.next (putDemand_effect _ _ _); · decide)
      | (with_reducible apply Effect.next (latch_effect _ _ _); · decide)
      | split

theorem applyFlagAction_effect (a : FlagAction) (s : State) : Effect [.groups, .demand, .link] s (applyFlagAction a s) := by
  unfold applyFlagAction; try dsimp only
  repeat' first
      | with_reducible exact Effect.refl _ _
      | intro _
      | (with_reducible apply Effect.next (putGroup_effect _ _ _); · decide)
      | (with_reducible apply Effect.next (latch_effect _ _ _); · decide)
      | (with_reducible apply Effect.next (applyCall_effect _ _ _); · decide)
      | split

theorem endPrep_effect (g : GroupId) (s : State) : Effect seqFields s (endPrep g s) := by
  unfold endPrep; try dsimp only
  repeat' first
      | with_reducible exact Effect.refl _ _
      | intro _
      | (with_reducible apply Effect.next (startGreen_effect _ _); · decide)
      | (with_reducible apply Effect.next (settle_effect _); · decide)

theorem takeFirst_effect (l : List Reason) (s : State) : Effect [.choices] s (takeFirst l s).2 := by
  unfold takeFirst
  split
  · exact .refl _ _
  · exact .refl _ _
  · refine ⟨fun f hf => ?_, .none⟩
    cases f <;> first | exact absurd (by decide) hf | rfl

theorem minimumGreen_effect (g : GroupId) (s : State) : Effect (.choices :: seqFields) s (minimumGreen g s) := by
  unfold minimumGreen; dsimp only
  have k : Effect (.choices :: seqFields) s (takeFirst (causesAtMinGreen (s.putGroup g
      { s.groups.get g with minGreenPassed := true }) g) (s.putGroup g
      { s.groups.get g with minGreenPassed := true })).2 :=
    ((putGroup_effect _ _ _).mono (by decide)).trans ((takeFirst_effect _ _).mono (by decide))
  split
  · next e => rw [e] at k; exact k
  · next e =>
    rw [e] at k
    exact (k.trans ((terminate_effect _ _ _).mono (by decide))).trans ((settle_effect _).mono (by decide))

theorem endClear_effect (g : GroupId) (s : State) : Effect modeFields s (endClear g s) := by
  unfold endClear; try dsimp only
  repeat' first
      | with_reducible exact Effect.refl _ _
      | intro _
      | (with_reducible apply Effect.next (changeGroup_effect _ _ _); · decide)
      | (with_reducible apply Effect.next (settle_effect _); · decide)
      | (with_reducible apply Effect.next (closeCheck_effect _); · decide)
      | (with_reducible apply Effect.next (checkRedOut_effect _ _); · decide)
      | (with_reducible apply Effect.next (judgeClearance_effect _ _); · decide)

theorem expireGap_effect (g : GroupId) (s : State) : Effect seqFields s (expireGap g s) := by
  unfold expireGap; try dsimp only
  repeat' first
      | with_reducible exact Effect.refl _ _
      | intro _
      | (with_reducible apply Effect.next (gapOut_effect _ _); · decide)
      | (with_reducible apply Effect.next (setGap_effect _ _ _); · decide)
      | (with_reducible apply Effect.next (settle_effect _); · decide)

theorem endByMax_effect (g : GroupId) (s : State) : Effect seqFields s (endByMax g s) := by
  unfold endByMax; try dsimp only
  repeat' first
      | with_reducible exact Effect.refl _ _
      | intro _
      | (with_reducible apply Effect.next (terminate_effect _ _ _); · decide)
      | (with_reducible apply Effect.next (settle_effect _); · decide)

theorem beginStartRed_effect  (s : State) : Effect modeFields s (beginStartRed s) := by
  unfold beginStartRed; try dsimp only
  repeat' first
      | with_reducible exact Effect.refl _ _
      | intro _
      | (with_reducible apply Effect.next (changeMode_effect _ _ _); · decide)
      | (with_reducible apply Effect.next (checkAllRedOut_effect _); · decide)

theorem expireSilence_effect (s : State) : Effect modeFields s (expireSilence s) := by
  unfold expireSilence
  refine Effect.next (startCondition_effect _ _ _) (by decide) ?_
  exact Effect.with_mode _ (by decide) (.refl _ _)

theorem commitGroups_effect (old : Configuration) (s : State) : Effect [.groups, .outputs] s (commitGroups old s) := by
  unfold commitGroups; try dsimp only
  repeat' first
      | with_reducible exact Effect.refl _ _
      | intro _
      | (with_reducible apply Effect.next (putGroup_effect _ _ _); · decide)
      | (with_reducible apply Effect.each)
      | (with_reducible apply Effect.next (driveLamps_effect _ _); · decide)

theorem commitDemand_effect  (s : State) : Effect [.demand] s (commitDemand s) := by
  refine ⟨fun f hf => ?_, .none⟩
  cases f <;> first | exact absurd (by decide) hf | rfl

theorem commitChannel_effect (p : PreemptId) (s : State) : Effect [.preempt, .link] s (commitChannel p s) := by
  unfold commitChannel; try dsimp only
  repeat' first
      | with_reducible exact Effect.refl _ _
      | intro _
      | (with_reducible apply Effect.next (putPreempt_effect _ _ _); · decide)
      | (with_reducible apply Effect.next (preemptNotice_effect _ _ _); · decide)
      | split

theorem commitStation_effect (old : Configuration) (st : StationId) (s : State) : Effect [.monitor, .faults, .stations, .link] s (commitStation old st s) := by
  unfold commitStation; try dsimp only
  repeat' first
      | with_reducible exact Effect.refl _ _
      | intro _
      | (with_reducible apply Effect.next (putStation_effect _ _ _); · decide)
      | (with_reducible apply Effect.next (endCondition_effect _ _ _); · decide)
      | (with_reducible apply Effect.next (stationNotice_effect _ _ _); · decide)
      | split

theorem commitTransaction_effect (old : Configuration) (s : State) : Effect [.bus] s (commitTransaction old s) := by
  unfold commitTransaction; try dsimp only
  repeat' first
      | with_reducible exact Effect.refl _ _
      | intro _
      | (with_reducible apply Effect.next (putBus_effect _ _); · decide)

theorem commitDetector_effect (old : Configuration) (c : ChannelId) (s : State) : Effect (.channels :: modeFields) s (commitDetector old c s) := by
  unfold commitDetector; try dsimp only
  repeat' first
      | with_reducible exact Effect.refl _ _
      | intro _
      | (with_reducible apply Effect.next (putChannel_effect _ _ _); · decide)
      | (with_reducible apply Effect.next (endCondition_effect _ _ _); · decide)
      | (with_reducible apply Effect.next (failChannel_effect _ _ _); · decide)
      | split

theorem renameChannel_effect (c : ChannelId) (s : State) : Effect (.channels :: seqFields) s (renameChannel c s) := by
  unfold renameChannel; try dsimp only
  repeat' first
      | with_reducible exact Effect.refl _ _
      | intro _
      | (with_reducible apply Effect.next (putChannel_effect _ _ _); · decide)
      | (with_reducible apply Effect.next (reportFailure_effect _ _ _); · decide)

theorem commitDetectors_effect (old : Configuration) (s : State) : Effect (.channels :: modeFields) s (commitDetectors old s) := by
  unfold commitDetectors; try dsimp only
  repeat' first
      | with_reducible exact Effect.refl _ _
      | intro _
      | (with_reducible apply Effect.each)
      | (with_reducible apply Effect.next (commitDetector_effect _ _ _); · decide)
      | (with_reducible apply Effect.next (renameChannel_effect _ _); · decide)

theorem commitRestart_effect (n : SignId) (s : State) : Effect [.signs, .link] s (commitRestart n s) := by
  unfold commitRestart; try dsimp only
  repeat' first
      | with_reducible exact Effect.refl _ _
      | intro _
      | (with_reducible apply Effect.next (setRestart_effect _ _); · decide)
      | (with_reducible apply Effect.next (restartNow_effect _ _); · decide)
      | split

theorem commitSign_effect (old : Configuration) (n : SignId) (s : State) : Effect [.monitor, .faults, .signs, .link] s (commitSign old n s) := by
  unfold commitSign; try dsimp only
  repeat' first
      | with_reducible exact Effect.refl _ _
      | intro _
      | (with_reducible apply Effect.next (putSign_effect _ _ _); · decide)
      | (with_reducible apply Effect.next (endCondition_effect _ _ _); · decide)
      | (with_reducible apply Effect.next (commitRestart_effect _ _); · decide)
      | split

theorem commitLamps_effect (old : Configuration) (s : State) : Effect [.outputs, .audio] s (commitLamps old s) := by
  refine ⟨fun f hf => ?_, .none⟩
  cases f <;> first | exact absurd (by decide) hf | rfl

theorem commitMonitor_effect (first : Bool) (s : State) :
    Effect [.outputs, .monitor, .faults, .link] s (commitMonitor first s) := by
  unfold commitMonitor; dsimp only
  refine Effect.next (renewOverlaps_effect _) (by decide) ?_
  refine ⟨fun f hf => ?_, .none⟩
  cases f <;> first | exact absurd (by decide) hf | rfl

theorem applyCommit_effect (w : Configuration) (s : State) :
    Effect (.committed :: .stations :: .bus :: .channels :: modeFields) s (applyCommit w s) := by
  unfold applyCommit; dsimp only
  refine Effect.next (modeNotice_effect _ _ _) (by decide) ?_
  refine Effect.next (commitMonitor_effect _ _) (by decide) ?_
  refine Effect.next (commitLamps_effect _ _) (by decide) ?_
  refine Effect.each (fun _ _ => (commitSign_effect _ _ _).mono (by decide)) ?_
  refine Effect.next (commitDetectors_effect _ _) (by decide) ?_
  refine Effect.next (cycleStart_effect _) (by decide) ?_
  refine Effect.next (commitTransaction_effect _ _) (by decide) ?_
  refine Effect.each (fun _ _ => (commitStation_effect _ _ _).mono (by decide)) ?_
  refine Effect.each (fun _ _ => (commitChannel_effect _ _).mono (by decide)) ?_
  refine Effect.next (commitDemand_effect _) (by decide) ?_
  refine Effect.next (commitGroups_effect _ _) (by decide) ?_
  refine ⟨fun f hf => ?_, .none⟩
  cases f <;> first | exact absurd (by decide) hf | rfl

end Sys2Proof.Machine
end

