-- ==== Sys2Proof/Laws/Requests.lean ====
section
/-! SUPPORT. Laws/Requests.lean: a request taken at once, from the frame that carries it to its reply on the line. -/

namespace Sys2Proof.Machine

/-! ### The end of a step -/

theorem arbitrate_of_settled (s : State) (h : s.busSettled = true) : arbitrate s = s := by
  unfold State.busSettled at h
  unfold arbitrate
  split
  · rfl
  · next free =>
    simp only [Bool.or_eq_true, Bool.and_eq_true, Option.isNone_iff_eq_none] at h free
    rcases h with h | ⟨⟨urgent, plain⟩, sign⟩
    · exact absurd h free
    · simp [urgent, plain, sign]

/-- What the arbiter reads. -/
theorem busSettled_congr (s t : State) (bus : t.bus = s.bus) (stations : t.stations = s.stations)
    (signs : t.signs = s.signs) (committed : t.committed = s.committed) : t.busSettled = s.busSettled := by
  have cfg : t.cfg = s.cfg := by unfold State.cfg; rw [committed]
  have served : ∀ n, t.signServed n = s.signServed n := by
    intro n; unfold State.signServed; rw [cfg, stations]
  simp [State.busSettled, duePoll, nextSign, bus, stations, signs, cfg, served]

theorem pump_answered (s : State) (f : HostFrame) (r : Reply) :
    pump (s.putLink { s.link with inProcess := some ⟨f, r, false⟩ }) = s.putLink (s.link.answering f r) := by
  unfold pump Link.pump Link.answering
  cases h : s.link.sending <;> simp [State.putLink, h]

/-! ### Taking a request -/

theorem validFrame_free (s : State) (h : s.free) : (validFrame s).free := by
  have := (validFrame_effect s).notices.keeps.2.2.1
  unfold State.free at h ⊢
  rw [this, h]

theorem validFrame_busSettled (s : State) : (validFrame s).busSettled = s.busSettled :=
  have e := validFrame_effect s
  busSettled_congr _ _ (e.bus (by decide)) (e.stations (by decide)) (e.signs (by decide)) (e.committed (by decide))

theorem validFrame_cfg (s : State) : (validFrame s).cfg = s.cfg := by
  unfold State.cfg; rw [(validFrame_effect s).committed (by decide)]

/-- The end of a condition touches the conditions, the fault table and the notices only. -/
theorem endCondition_mode (kind : FaultKind) (object : FaultObject) (s : State) :
    (endCondition kind object s).mode = s.mode := (endCondition_effect kind object s).mode (by decide)

theorem validFrame_mode (s : State) : (validFrame s).mode.mode = s.mode.mode := by
  unfold validFrame; simp only [endCondition_mode]

/-- A request taken at once, answered, with nothing left for the bus to grant. -/
theorem request_answered (i : Instr) (s t : State) (r : Result) (items : List Byte) (h : s.free)
    (a : answer i (validFrame s) = ((r, items), t)) (b : t.busSettled = true) :
    request i s = t.replied i r items := by
  have f := validFrame_free s h
  unfold State.free at f
  unfold request receiveFrame place finish
  rw [f]
  simp only [takeRequest, answerFrame, frameFor, a]
  rw [arbitrate_of_settled]
  · exact pump_answered _ _ _
  · rw [← b]; exact busSettled_congr _ _ rfl rfl rfl rfl

/-- A request that is refused, or that reports only. -/
theorem request_reported (i : Instr) (s : State) (r : Result) (items : List Byte) (h : s.free)
    (a : answer i (validFrame s) = ((r, items), validFrame s)) (b : s.busSettled = true) :
    request i s = (validFrame s).replied i r items :=
  request_answered i s _ r items h a (by rw [validFrame_busSettled, b])

/-- With no HOST_SILENT condition, a valid frame restarts the silence timer and does nothing else (R104). -/
theorem validFrame_quiet (s : State) (h : s.stands .hostSilent objectOfLink = false) :
    validFrame s = { s with mode := { s.mode with silence := match s.mode.silence with
      | .stopped => .stopped
      | _ => .running 0 } } := by
  unfold validFrame endCondition
  have : s.monitor.conditions.find? (fun c => c.kind == .hostSilent && c.object == objectOfLink) = none := by
    rw [List.find?_eq_none]
    unfold State.stands at h
    intro c hc
    have := (List.any_eq_false.mp h) c hc
    simpa using this
  simp only [this] <;> cases s.mode.silence <;> rfl

end Sys2Proof.Machine
end

