-- ==== Sys2Proof/Tests/Slice0.lean ====
section
/-! SUPPORT. Tests/Slice0.lean: the author's own tests: checks of well-formedness, the worked frame of chapter 12, one
step of commands on small states, and for every statement with hypotheses a state that meets them. -/

open Sys2Proof Sys2Proof.Machine

set_option Elab.async false

namespace Sys2Proof.Tests

/-! ### A small junction -/

/-- G1 and G2 are VEHICLE groups that conflict, G3 a PEDESTRIAN group that conflicts with none; P1 clears for G2 and
dwells on G3; S1 is an urgent detector station with channel 1, which calls G1, and S2 carries sign 1. -/
def junction : Configuration :=
  { Configuration.blank with
    groups := ((Configuration.blank.groups.set 0 ⟨.vehicle, 50, 200, 20, 30, 0, 10⟩).set 1
      ⟨.vehicle, 50, 200, 20, 30, 10, 10⟩).set 2 ⟨.pedestrian, 50, 200, 20, 50, 0, 0⟩
    matrix := (Configuration.blank.matrix.set 0 ((Bank.fill 24 none).set 1 (some 40))).set 1
      ((Bank.fill 24 none).set 0 (some 50))
    preempt := Configuration.blank.preempt.set 0 ⟨20, 50, [1], 150, [2], 200, some 0, true⟩
    global := ⟨30, 20, 10, .report, .report⟩
    outputs := Configuration.blank.outputs.set 0 ⟨⟨true, 100⟩, ⟨true, 100⟩, ⟨false, 100⟩⟩
    audio := Configuration.blank.audio.set 0 ⟨some 2, 1, 5, .short⟩
    stations := (Configuration.blank.stations.set 0 ⟨.detector, true⟩).set 1 ⟨.sign, false⟩
    channels := Configuration.blank.channels.set 0 ((Bank.fill 8 none).set 0 (some 1))
    accept := Configuration.blank.accept.set 0 ⟨.call, 0, 0, [0], [.occupy], [0], none⟩
    signs := Configuration.blank.signs.set 0 ⟨some 1, 8, 8, .d4⟩ }

/-- A group that has been in RED for a while. -/
def resting : Group := { Group.fresh with state := .red, redAge := 100, greenEndAge := 100 }

/-- The outputs of a group as Table 6-2 commands them, sensed as they should be. -/
def lampsOf (kind : Kind) (state : GroupState) : Trio Output :=
  let o (c : Colour) : Output :=
    { Output.fresh with
      commanded := commandOf kind state c
      sensed := expectedOf (commandOf kind state c) true
      expected := expectedOf (commandOf kind state c) true }
  ⟨o .red, o .amber, o .green⟩

/-- The junction with its groups and lamps in the states given, in the mode given. -/
def standing (mode : ModeRec) (groups : Bank 24 Group) : State :=
  { State.reset with
    committed := some junction
    mode := mode
    groups := groups
    outputs := Bank.tab fun g => lampsOf (junction.groups.get g).kind (groups.get g).state
    stations := (State.reset.stations.set 0 { Station.fresh with state := some .polling }).set 1
      { Station.fresh with state := some .polling } }

/-- The three groups of the junction with these records. -/
def three (a b c : Group) : Bank 24 Group := (((Bank.fill 24 Group.fresh).set 0 a).set 1 b).set 2 c

/-- RUN, every group in RED, the host heard of a second ago. -/
def running : State := standing ⟨.run, none, none, none, .running 10⟩ (three resting resting resting)

/-- A green in its sixth second. -/
def serving (policy : Policy) (past : Bool) : Group :=
  { Group.fresh with state := .green, greenElapsed := if past then 60 else 50, minGreenPassed := past
                     policy := some policy }

/-- RUN with G1 in GREEN. -/
def green (policy : Policy) (past : Bool) : State :=
  standing ⟨.run, none, none, none, .stopped⟩ (three (serving policy past) resting resting)

/-- CONFIGURE with the junction as the working copy, entered from DARK before any commit. -/
def configuring : State :=
  { State.reset with mode := ⟨.configure, some .dark, none, none, .stopped⟩, working := some junction }

/-- Every group in FLASH. -/
def flashing (mode : Mode) : State :=
  let r : Group := { Group.fresh with state := .flash }
  standing ⟨mode, none, some 30, none, .stopped⟩ (three r r r)

/-- The state that a command leaves. -/
def after (i : Instr) (s : State) : State :=
  match exec i s with
  | .next t => t
  | _ => s

/-- The result and the items of the reply in process. -/
def reply (s : State) : Option (Result × List Byte) := s.link.inProcess.map fun p => (p.reply.result, p.reply.items)

/-! ### Well-formedness: each check refuses an ill-formed term -/

theorem test_wellFormed_accepts : (Instr.enter 24 (some .actuated) (some 2500)).wellFormed = true := by decide
theorem test_wellFormed_group_byte : (Instr.cancel 256).wellFormed = false := by decide
theorem test_wellFormed_override : (Instr.enter 1 none (some 0xFFFF)).wellFormed = false := by decide
theorem test_wellFormed_flags : (Instr.groupFlags [⟨300, none, none, none⟩]).wellFormed = false := by decide
theorem test_wellFormed_two_bytes : (Instr.cfgBus 65536).wellFormed = false := by decide
theorem test_wellFormed_row : (Instr.cfgMatrixRow 1 [(2, 70000)]).wellFormed = false := by decide
theorem test_wellFormed_list : (Instr.cfgPreempt 1 0 0 0 0 [256] [] 0 none).wellFormed = false := by decide
theorem test_wellFormed_empty_entry : (Instr.cfgAccept 1 (some .call) none).wellFormed = false := by decide
theorem test_wellFormed_full_entry :
    (Instr.cfgAccept 1 (some .empty) (some ⟨1, 1, [1], [], []⟩)).wellFormed = false := by decide
theorem test_wellFormed_sign_data : (Instr.signData 1 []).wellFormed = false := by decide
theorem test_wellFormed_pair : (Instr.conflictOverlapTimeout 2 1).wellFormed = false := by decide
theorem test_wellFormed_current : (Instr.currentCheck 0 .red 4001).wellFormed = false := by decide
theorem test_wellFormed_length :
    (Instr.groupFlags (List.replicate 63 ⟨1, some .set, some .set, some .latch⟩)).wellFormed = false := by
  decide +kernel

/-! ### Frames -/

/-- The worked example of chapter 12: a STATUS_SUMMARY request is C3 01 2D DB F1. -/
theorem test_check_of_status_summary : word2 (checkOf [0x01, 0x2D]) = [0xDB, 0xF1] := by decide +kernel

/-- The five bytes of that frame run the request: the reply is OK. -/
theorem test_status_summary_frame :
    reply ([0xC3, 0x01, 0x2D, 0xDB, 0xF1].foldl (fun s b => after (.hostByteReceived b false) s) State.reset) =
      some (.ok, [0, 0, 0, 0, 0, 0, 0, 0, 0, 0, 0, 0, 0, 0, 0, 0]) := by decide +kernel

/-- A body of ENTER in both forms (Table 12-5, R204). -/
theorem test_judge_enter :
    judgeBody 0x01 [5, 1] = .request (.enter 5 (some .actuated) none) ∧
      judgeBody 0x01 [5, 0, 0x01, 0xF4] = .request (.enter 5 (some .held) (some 500)) ∧
      judgeBody 0x01 [5, 0, 0xFF, 0xFF] = .request (.enter 5 (some .held) none) ∧
      judgeBody 0x01 [5] = .badLength ∧ judgeBody 0x3E [] = .badKind := by decide

/-! ### One step of commands -/

/-- R44, R10: with prep_time 0 an ENTER of G1 is GREEN at once, and its position is 1. -/
theorem test_enter_granted :
    ((after (.enter 1 (some .held) none) running).groups.get 0).state = .green ∧
      reply (after (.enter 1 (some .held) none) running) = some (.ok, [1, 0xFF, 0xFF]) := by decide +kernel

/-- R42: G2 conflicts with G1 in GREEN: its entry waits. -/
theorem test_enter_waits :
    (after (.enter 2 (some .held) (some 10)) (green .held true)).queue = [⟨1, .host, .held, some 50, 0⟩] ∧
      reply (after (.enter 2 (some .held) (some 10)) (green .held true)) = some (.clamped, [1, 0, 50]) := by
  decide +kernel

theorem test_cancel : (after (.cancel 2) { running with queue := [⟨1, .host, .held, none, 0⟩] }).queue = [] := by
  decide +kernel

theorem test_leave_deferred :
    reply (after (.leave 1) (green .held false)) = some (.deferred, []) ∧
      ((after (.leave 1) (green .held false)).groups.get 0).leavePending = true := by decide +kernel

theorem test_leave_ends : ((after (.leave 1) (green .held true)).groups.get 0).lastReason = some .leave := by
  decide +kernel

theorem test_group_flags :
    ((after (.groupFlags [⟨2, some .set, some .leave, some .latch⟩]) running).demand.get 1).sources.host = true ∧
      ((after (.groupFlags [⟨2, some .set, some .leave, some .latch⟩]) running).groups.get 1).inhibit = true := by
  decide +kernel

theorem test_preempt_call :
    ((after (.preemptCall 1 (some .assert)) running).preempt.get 0).state = .delay ∧
      reply (after (.preemptCall 1 (some .assert)) running) = some (.ok, [3]) := by decide +kernel

theorem test_mode_request :
    (after (.modeRequest (some .flash)) (green .held true)).mode.mode = .runClosing ∧
      reply (after (.modeRequest (some .dark)) running) = some (.wrongMode, [4]) := by decide +kernel

/-- R4: max_green 1.0 s becomes 2.0 s and is raised to min_green; clear_time 9.0 s becomes 6.0 s. -/
theorem test_cfg_group :
    reply (after (.cfgGroup 4 (some .vehicle) 50 10 0 90 0 0) configuring) = some (.clamped, [2]) ∧
      (after (.cfgGroup 4 (some .vehicle) 50 10 0 90 0 0) configuring).working.map (fun w => w.groups.get 3) =
        some ⟨.vehicle, 50, 50, 0, 60, 0, 0⟩ := by decide +kernel

theorem test_cfg_matrix_row :
    reply (after (.cfgMatrixRow 1 [(2, 40), (2, 50)]) configuring) = some (.badIndex, []) ∧
      (after (.cfgMatrixRow 1 [(3, 60)]) configuring).working.map (fun w => (w.matrix.get 0).get 1) =
        some none := by decide +kernel

/-- R144: 254 ms is within 100 to 1000, and becomes 250. -/
theorem test_cfg_bus :
    reply (after (.cfgBus 254) configuring) = some (.clamped, [1]) ∧
      (after (.cfgBus 254) configuring).working.map (·.pollPeriod) = some 250 := by decide +kernel

/-- The junction without detector channels. -/
def plain : Configuration :=
  { junction with channels := Configuration.blank.channels, accept := Configuration.blank.accept }

/-- R102, R103: a working copy without an offence is committed. -/
theorem test_commit :
    (requestCommit { configuring with working := some plain }).1 = (.ok, []) ∧
      recommitGroup .unused .vehicle .flash Group.fresh = { Group.fresh with state := .flash } := by decide +kernel

theorem test_dim : (after (.dim 3 (some .s5)) running).dimming = ⟨1, some ⟨3, .s5, 50⟩⟩ := by decide +kernel

theorem test_sign_data :
    ((after (.signData 1 [7, 99]) running).signs.get 0).draft.take 3 = [7, 15, 0] ∧
      reply (after (.signData 1 [7, 99]) running) = some (.clamped, [2, 1]) := by decide +kernel

theorem test_fault_reset :
    (after .faultReset { flashing .failFlash with
      faults := [⟨.conflict, .flash, ⟨1, 2⟩, .latched, 0, 0, 1⟩] }).mode.mode = .flash := by decide +kernel

theorem test_prep_end :
    ((after (.prepEnd 1) (standing ⟨.run, none, none, none, .stopped⟩
      (three resting { resting with state := .prep, prepTimer := 10, policy := some .actuated } resting))).demand.get
        1).timers = some ⟨.running 20, none, 200⟩ := by decide +kernel

theorem test_conflict :
    (after (.conflictOverlapTimeout 0 1) { green .held true with
      monitor := { State.reset.monitor with overlaps := [⟨0, 1, 200, false⟩] } }).mode.mode = .failFlash := by
  decide +kernel

/-- Table 6-2 in CLEAR: amber for a VEHICLE group, the red flashing for a PEDESTRIAN one. -/
theorem test_lamps_of_clear :
    commandOf .vehicle .clear .amber = .on ∧ commandOf .pedestrian .clear .red = .flashing := by decide

/-- A poll in flight to S1, its window open. -/
def polled (waits : Nat) : State :=
  { running with bus := { State.reset.bus with transaction := some ⟨0, .poll, [], some 8, waits, false, false⟩ } }

/-- A reply of S1 with a status alone. -/
def statusReply (status : Byte) : Instr :=
  .stationReply (0xA6#8 :: [1#8, 1#8, status] ++ word2 (checkOf [1#8, 1#8, status]))

theorem test_reply_error : ((after .stationReplyGap (polled 0)).stations.get 0).score = 8 := by decide +kernel
/-- A FAULT suspends the station, and a reply whose CHECK differs is an error (R152, R153). -/
theorem test_reply_fault_and_bad_check :
    ((after (statusReply 0x14) (polled 0)).stations.get 0).state = some .suspended ∧
      ((after (.stationReply [0xA6#8, 1#8, 1#8, 0x10#8, 0#8, 0#8]) (polled 0)).stations.get 0).score = 8 := by
  decide +kernel

/-- An event of S1 in the DATA reply to its poll. -/
def eventReply (channel kind : Byte) : Instr :=
  .stationReply (0xA6#8 :: [1#8, 3#8, 0x10#8, channel, kind] ++ word2 (checkOf [1#8, 3#8, 0x10#8, channel, kind]))

/-- R164, R170, R50: an OCCUPY of S1/1 calls G1. -/
theorem test_event_calls :
    ((after (eventReply 1 1) (polled 0)).channel ⟨0, 0⟩).state = .occupied ∧
      ((after (eventReply 1 1) (polled 0)).demand.get 0).sources.detector = true := by decide +kernel

/-! ### Every statement with hypotheses has a state that meets them -/

/-- No request is in process at `running`, and its bus has nothing to grant. -/
theorem witness_free : running.free ∧ running.busSettled = true := ⟨rfl, by decide +kernel⟩

/-- A request of OUTPUT_STATUS in process whose reply is on the line. -/
def busy : InProcess := ⟨frameFor .queueStatus, ⟨0x22, .ok, []⟩, true⟩

/-- The junction with that request in process, another held or not, and these notices waiting. -/
def busyState (held : Option HostFrame) (notices : List Notice) : State :=
  { running with
    link := { running.link with
      inProcess := some busy, sending := some (.reply busy.reply), holding := held, notices := notices } }

theorem witness_StepRunsTheFrontCommand :
    ({ running with pending := [.dimReset] } : State).pending = Instr.dimReset :: [] := rfl

theorem witness_IdleStepsPassTime :
    (running.pending = [] ∧ nextDue { running with flash := ⟨true, 500⟩ } = some .flashHalfBoundary) ∧
      (nextDue running = none ∧ running.clock.ms < 1000) ∧
      (nextDue { running with clock := ⟨0, 0, 999⟩ } = none ∧ 999 % 100 = 99) := by decide +kernel

theorem witness_BusyLinkHoldsAndPassesOn_holds :
    ((requestKind .dimReset).isSome = true ∧ (busyState none []).busSettled = true ∧
        (busyState none []).link.inProcess = some busy ∧ (busyState none []).link.holding = none ∧
        (busyState none []).link.sending.isSome = true ∧
        (busyState none []).stands .hostSilent objectOfLink = false) ∧
      (busyState (some (frameFor .reset)) []).link.holding = some (frameFor .reset) := by decide +kernel

theorem witness_BusyLinkHoldsAndPassesOn_sent :
    ((busyState none []).busSettled = true ∧ (busyState none []).link.sending = some (.reply busy.reply) ∧
        (busyState none []).link.inProcess = some busy ∧ busy.frame.judged ≠ .request .reset) ∧
      (busyState none [⟨0, .linkError 1⟩]).link.notices = [⟨0, .linkError 1⟩] ∧
      (busyState none []).link.notices = [] ∧
      (busyState (some (frameFor .dimReset)) []).link.holding = some (frameFor .dimReset) := by decide +kernel

/-- The junction with a notice at its end on the line, this request in process, and a notice waiting. -/
def notifying (p : Option InProcess) : State :=
  { running with
    link := { running.link with
      inProcess := p, sending := some (.notice ⟨0, .overrun 1⟩), notices := [⟨0, .linkError 1⟩] } }

theorem witness_BusyLinkHoldsAndPassesOn_notice :
    (notifying none).busSettled = true ∧ (notifying none).link.sending = some (.notice ⟨0, .overrun 1⟩) ∧
      (∀ r, Sending.notice ⟨0, .overrun 1⟩ ≠ .reply r) ∧ (notifying none).link.inProcess = none ∧
      (notifying (some { busy with begun := false })).link.inProcess = some { busy with begun := false } ∧
      (notifying (some { busy with begun := false })).busSettled = true :=
  ⟨by decide +kernel, rfl, nofun, rfl, rfl, by decide +kernel⟩

/-- The receiver in FRAME with these bytes, a notice on the line. -/
def inFrame (bytes : Option (List Byte)) : State :=
  { running with
    link := { running.link with receiver := bytes, gapMs := 6, sending := some (.notice ⟨0, .overrun 1⟩) } }

theorem witness_ReceiverAssemblesOrDiscardsFrames_joins :
    ((inFrame none).busSettled = true ∧ (inFrame none).link.sending.isSome = true ∧
        (inFrame none).link.receiver = none) ∧
      ((inFrame (some [0xC3])).link.receiver = some [0xC3#8] ∧ 1 ≤ (250#8).toNat ∧ (250#8).toNat ≤ 250) ∧
      ((inFrame (some [0xC3, 1])).busSettled = true ∧
        (inFrame (some [0xC3, 1])).link.receiver = some (0xC3#8 :: 1#8 :: []) ∧ 1 ≤ (1#8).toNat ∧
        (1#8).toNat ≤ 250 ∧ ([] : List Byte).length + 1 < (1#8).toNat + 2) := by decide +kernel

theorem witness_ReceiverAssemblesOrDiscardsFrames_damaged :
    ((inFrame (some [0xC3])).busSettled = true ∧ (inFrame (some [0xC3])).link.sending.isSome = true ∧
        5 < (inFrame (some [0xC3])).link.gapMs ∧ ([0xC3] : List Byte) = [0xC3#8] ∧ 250 < (251#8 : Byte).toNat) ∧
      ((1#8).toNat = ([] : List Byte).length + 1 ∧
        [0xDB#8, 0xF2#8] ≠ word2 (checkOf (1#8 :: 0x2D#8 :: []))) := by decide +kernel

/-- The junction with these notices waiting behind one on the line, and a gap in the frame being received. -/
def gapped (notices : List Notice) : State :=
  { inFrame (some [0xC3]) with link := { (inFrame (some [0xC3])).link with notices := notices } }

/-- Sixty-four notices of different keys. -/
def manyNotices : List Notice := (allChannels.take 64).map fun c => ⟨0, .channel c .idle .recovered none⟩

theorem witness_NoticesJoinUpdateOrAreDropped :
    ((gapped [⟨0, .overrun 1⟩, ⟨0, .linkError 1⟩]).link.notices = [⟨0, .overrun 1⟩] ++ ⟨0, .linkError 1⟩ :: [] ∧
        (NoticeBody.linkError 2).key = (NoticeBody.linkError 1).key ∧
        (NoticeBody.overrun 1).key ≠ (NoticeBody.linkError 1).key) ∧
      ((gapped []).busSettled = true ∧ (gapped []).link.sending.isSome = true ∧
        (gapped []).link.receiver.isSome = true ∧ 5 < (gapped []).link.gapMs ∧ (gapped []).link.notices.length < 64) ∧
      (64 ≤ (gapped manyNotices).link.notices.length ∧
        ∀ x ∈ (gapped manyNotices).link.notices, x.body.key ≠ (NoticeBody.linkError 2).key) := by decide +kernel

theorem witness_LastFrameByteRunsTheRequest :
    Instr.statusSummary.wellFormed = true ∧ requestKind .statusSummary = some 0x2D ∧
      (1#8).toNat = 1 + (requestBody .statusSummary).length ∧
      [0xDB#8, 0xF1#8] = word2 (checkOf (1#8 :: 0x2D#8 :: requestBody .statusSummary)) ∧
      (inFrame (some [0xC3, 1, 0x2D, 0xDB])).link.receiver =
        some (0xC3#8 :: 1#8 :: 0x2D#8 :: requestBody .statusSummary ++ [0xDB#8]) := by decide +kernel

theorem witness_LastFrameByteRunsTheRequest_refused :
    ((inFrame none).link.inProcess = none ∧ (inFrame none).busSettled = true ∧
        (1#8).toNat = 1 + ([] : List Byte).length) ∧
      (¬(0x01 ≤ (0x3E#8).toNat ∧ (0x3E#8).toNat ≤ 0x1A) ∧ ¬(0x1F ≤ (0x3E#8).toNat ∧ (0x3E#8).toNat ≤ 0x2D) ∧
        [0xF9#8, 0xA3#8] = word2 (checkOf [1#8, 0x3E#8])) ∧
      (0 ∉ [1] ∧ [0x0E#8, 0x7C#8] = word2 (checkOf [1#8, 0x02#8])) := by decide +kernel

theorem witness_RequestBodiesDecodeToTheirRequests :
    (Instr.cfgPreempt 4 0 0 0 0 [1, 24] [] 0 none).wellFormed = true ∧
      requestKind (Instr.cfgPreempt 4 0 0 0 0 [1, 24] [] 0 none) = some 0x12 := by decide +kernel

theorem witness_ResetsLeaveTheirTables :
    running.free ∧ running.busSettled = true ∧
      ∃ (s : State) (p : InProcess), s.link.sending = some (.reply p.reply) ∧ s.link.inProcess = some p ∧
        p.frame.judged = .request .reset :=
  ⟨rfl, by decide +kernel,
    { running with link := { running.link with
        inProcess := some ⟨frameFor .reset, ⟨0x3F, .ok, []⟩, true⟩, sending := some (.reply ⟨0x3F, .ok, []⟩) } },
    ⟨frameFor .reset, ⟨0x3F, .ok, []⟩, true⟩, rfl, rfl, rfl⟩

theorem witness_ResetsLeaveTheirTables_power : Instr.cabReset = .powerOnReset ∨ Instr.cabReset = .cabReset :=
  .inr rfl

/-- Every statement about a CFG_ request starts from a state like these two. -/
theorem witness_Cfg :
    running.free ∧ running.busSettled = true ∧ running.mode.mode ≠ .configure ∧
      configuring.free ∧ configuring.busSettled = true ∧ configuring.mode.mode = .configure ∧
      configuring.working = some junction :=
  ⟨rfl, by decide +kernel, by decide, rfl, by decide +kernel, rfl, rfl⟩

theorem witness_CfgGroupClampsAndStores :
    (¬(1 ≤ 25 ∧ 25 ≤ 24)) ∧ 24 = (23 : GroupId).val + 1 ∧ some Kind.pedestrian = some .pedestrian := by decide

theorem witness_CfgMatrixRowReplacesTheRow :
    250 < 251 ∧ 24 = (23 : GroupId).val + 1 ∧
      (∀ p ∈ [(1, 0), (24, 250)], 1 ≤ p.1 ∧ p.1 ≤ 24 ∧ p.2 ≤ 250) ∧ ([(1, 0), (24, 250)].map Prod.fst).Nodup := by
  decide

theorem witness_CfgPreemptClampsAndStores :
    4 < [1, 2, 3, 4, 5].length ∧ [1, 24] = ([0, 23] : List GroupId).map numberOf ∧
      ([0, 23] : List GroupId).length ≤ 4 ∧ ([0, 23] : List GroupId).Nodup ∧ 4 ≤ 4 := by decide

theorem witness_CfgRecordsClampAndStore_global :
    some FaultPolicy.flash = some .flash ∧ (none : Option FaultPolicy) = none :=
  ⟨rfl, rfl⟩

theorem witness_CfgRecordsClampAndStore :
    24 ≤ 24 ∧ 32 ≤ 32 ∧ ¬(1 ≤ 9 ∧ 9 ≤ 8) ∧ 32 < 33 ∧ 24 = (23 : GroupId).val + 1 := by decide

/-- A working copy with 64 detector channels. -/
def crowded : Configuration :=
  { junction with channels := Bank.tab fun st => if st.val < 8 then Bank.fill 8 (some 1) else Bank.fill 8 none }

theorem witness_CfgChannelAndAcceptWriteTheirTables_channel :
    ((crowded.channels.get 8).get 0).isSome = false ∧
      64 ≤ (allChannels.filter fun x => ((crowded.channels.get x.station).get x.channel).isSome).length ∧
      ((junction.channels.get 0).get 0).isSome = true ∧
      ¬64 ≤ (allChannels.filter fun x => ((junction.channels.get x.station).get x.channel).isSome).length := by
  decide +kernel

theorem witness_CfgChannelAndAcceptWriteTheirTables_accept :
    (1 ≤ ([0, 1, 2, 23] : List GroupId).length ∧ ([0, 1, 2, 23] : List GroupId).length ≤ 4 ∧
        ([0, 1, 2, 23] : List GroupId).Nodup) ∧
      (0 : StationId).val ≤ (31 : StationId).val ∧ ([0, 7] : List ChannelNo) ≠ [] ∧ ([0, 7] : List ChannelNo).Nodup ∧
      ([.occupy] : List EventKind) ≠ [] ∧ ([.occupy] : List EventKind).Nodup ∧ Action.forward ≠ .empty ∧
      (⟨2, 1, [9], [none], [1]⟩ : AcceptArg).operand ≠ [] ∧ ¬([3, 3] : List Nat).Nodup ∧ ¬24 < 24 ∧ 24 < 25 ∧
      some Action.call ≠ some .empty ∧ ¬(1 ≤ 49 ∧ 49 ≤ 48) := by decide

/-- The junction with one time of its matrix changed. -/
def flawed (i j : GroupId) (time : Option Nat) : Configuration :=
  { junction with matrix := junction.matrix.set i ((junction.matrix.get i).set j time) }

theorem witness_FailedCommitChangesNothing :
    (firstOffence (flawed 0 0 (some 30))).map Prod.fst = some 1 ∧
      (firstOffence (flawed 0 1 none)).map Prod.fst = some 2 ∧
      (firstOffence { flawed 0 3 (some 60) with
        matrix := (flawed 0 3 (some 60)).matrix.set 3 ((Bank.fill 24 none).set 0 (some 60)) }).map Prod.fst = some 3 ∧
      (firstOffence (flawed 0 1 (some 20))).map Prod.fst = some 4 := by decide +kernel

/-- P1 of the junction with these lists and this sign. -/
def preempting (track dwell : List GroupId) (sign : Option SignId) : Configuration :=
  { junction with preempt := Configuration.blank.preempt.set 0 ⟨20, 50, track, 150, dwell, 200, sign, true⟩ }

/-- The first of the checks after those of the matrix that finds an offence. -/
def laterOffence (w : Configuration) : Option Nat :=
  (commitChecks.drop 4).findSome? fun c => (c.2 w).map fun _ => c.1

/-- None of these changes touches the groups or the matrix of the junction, which its own checks pass. -/
theorem witness_FailedCommitChangesNothing_later :
    firstOffence junction = none ∧ laterOffence (preempting [3] [] none) = some 5 ∧
      laterOffence (preempting [0, 1] [] none) = some 6 ∧ laterOffence (preempting [0] [1] none) = some 7 ∧
      laterOffence (preempting [] [0, 1] none) = some 7 ∧ laterOffence (preempting [] [] (some 1)) = some 8 ∧
      laterOffence { junction with signs := junction.signs.set 0 ⟨some 1, 128, 48, .d1⟩ } = some 9 ∧
      laterOffence { junction with signs := junction.signs.set 1 ⟨some 1, 8, 8, .d1⟩ } = some 10 ∧
      laterOffence { junction with
        channels := junction.channels.set 1 ((Bank.fill 8 none).set 0 (some 1)) } = some 11 ∧
      laterOffence { junction with
        accept := junction.accept.set 1 ⟨.ped, 0, 0, [0], [.press], [0], none⟩ } = some 12 ∧
      laterOffence { junction with audio := junction.audio.set 0 ⟨some 0, 1, 5, .short⟩ } = some 13 := by
  decide +kernel

theorem witness_CommitInstallsTheConfiguration :
    ({ configuring with working := some plain } : State).working = some plain ∧ firstOffence plain = none ∧
      ∀ st c, (plain.channels.get st).get c = none := by decide +kernel

/-- The junction with S3 a detector station, S1/1 given up for S1/2, and sign 1 wider. -/
def rebuilt : Configuration :=
  { junction with
    stations := junction.stations.set 2 ⟨.detector, false⟩
    channels := junction.channels.set 0 ((Bank.fill 8 none).set 1 (some 1))
    signs := junction.signs.set 0 ⟨some 1, 16, 8, .d4⟩
    outputs := junction.outputs.set 0 ⟨⟨false, 100⟩, ⟨true, 100⟩, ⟨false, 100⟩⟩ }

/-- CONFIGURE entered from FLASH, with that configuration as the working copy. -/
def reconfiguring : State :=
  { flashing .flash with
    mode := ⟨.configure, some .flash, none, none, .stopped⟩, working := some rebuilt
    bus := { State.reset.bus with transaction := some ⟨1, .chunk 0 0, [], some 0, 0, false, false⟩ } }

theorem witness_CommitReachesTheOtherBlocks :
    reconfiguring.free ∧ SequenceLaw reconfiguring ∧ reconfiguring.mode.mode = .configure ∧
      reconfiguring.working = some rebuilt ∧ firstOffence rebuilt = none ∧ FaultLaw reconfiguring ∧
      (reconfiguring.cfg.stations.get 2).kind ≠ (rebuilt.stations.get 2).kind ∧
      (((reconfiguring.cfg.channels.get 0).get 0).isSome = true ∧ (rebuilt.channels.get 0).get 0 = none) ∧
      reconfiguring.cfg.signs.get 0 ≠ rebuilt.signs.get 0 ∧ reconfiguring.signBusy 0 = true := by
  refine ⟨rfl, by unfold SequenceLaw State.calm; decide +kernel, rfl, rfl, by decide +kernel,
    by unfold FaultLaw; decide +kernel, ?_⟩
  decide +kernel

/-- The same, with S2 SUSPENDED and the transfer of sign 1 still marked SENDING. -/
def reconfiguringLost : State :=
  { reconfiguring with
    stations := reconfiguring.stations.set 1 { Station.fresh with state := some .suspended }
    signs := reconfiguring.signs.set 0
      { Sign.fresh 8 8 with transfer := .sending, image := some (List.replicate 64 0), chunk := some 0 } }

theorem witness_CommitReachesTheOtherBlocks_lost :
    reconfiguringLost.free ∧ reconfiguringLost.working = some rebuilt ∧ reconfiguringLost.mode.mode = .configure ∧
      reconfiguringLost.signBusy 0 = true ∧ (reconfiguringLost.stations.get 1).state = some .suspended :=
  ⟨rfl, rfl, rfl, by decide +kernel, by decide +kernel⟩

/-- R179: a sign that the commit restarts goes to SUSPENDED where its station is lost, a transaction in flight or
none. -/
theorem test_commit_restart_lost :
    (let r := (commitRestart 0 reconfiguringLost).signs.get 0
     r.transfer = .suspended ∧ r.restart = true ∧ r.chunk = some 0) ∧
      (let r := (commitRestart 0 reconfiguring).signs.get 0
       r.transfer = .idle ∧ r.restart = true) := by decide +kernel

theorem witness_StatusRequestsChangeNothing : (0 = 0 ∨ 24 < 0) ∧ (25 = 0 ∨ 24 < 25) := by decide

theorem witness_ReadingClearsPulsesAndOverflowFlag :
    running.stuckLimit ⟨0, 0⟩ = some 1 ∧ running.stuckLimit ⟨0, 1⟩ = none := by decide +kernel

/-- A ramp whose next step is due. -/
def ramping : State := { running with dimming := ⟨2, some ⟨1, .s2, 0⟩⟩ }

theorem witness_LevelsRampAndReachTheOutputs :
    ramping.busSettled = true ∧ ramping.dimming.ramp = some ⟨1, .s2, 0⟩ ∧ (1 : Nat) ≠ ramping.dimming.level ∧
      running.dimming.ramp = none := by decide +kernel

theorem witness_FlashHalvesAndChirpsEnd :
    running.flash.ms < 500 ∧ 500 ≤ ({ running with flash := ⟨true, 500⟩ } : State).flash.ms ∧
      (State.putAudio running 0 ⟨.chirp, 0, 5, 0⟩).busSettled = true ∧
      ((State.putAudio running 0 ⟨.chirp, 0, 5, 0⟩).audio.get 0).pattern = .chirp ∧
      (running.audio.get 0).pattern ≠ .chirp := by decide +kernel

theorem witness_SignWindowOrdersAndClamps :
    ¬(1 ≤ 5 ∧ 5 ≤ 4) ∧ (running.cfg.signs.get 0).station ≠ none ∧ (running.cfg.signs.get 1).station = none := by
  decide +kernel

theorem witness_PageLaw : PageLaw running := by
  refine ⟨?_, ?_, ?_⟩
  · unfold Configuration.signsInRange; decide +kernel
  · intro w h; cases h
  · unfold SignCfg.isPage; decide +kernel

theorem witness_SignDataFillsTheWindow :
    running.free ∧ running.busSettled = true ∧ PageLaw running ∧ (running.cfg.signs.get 0).station ≠ none ∧
      1 ≤ ([7] : List Byte).length ∧ (List.replicate 200 (7 : Byte)).length ≤ 200 :=
  ⟨rfl, by decide +kernel, witness_PageLaw, by decide +kernel, by decide, by decide +kernel⟩

theorem witness_SignDataFillsTheWindow_refused :
    running.free ∧ running.busSettled = true ∧ 200 < (List.replicate 201 (7 : Byte)).length ∧
      (∀ n : SignId, 5 = n.val + 1 → (running.cfg.signs.get n).station = none) ∧
      (∀ n : SignId, 0 = n.val + 1 → (running.cfg.signs.get n).station = none) ∧
      ∀ n : SignId, 4 = n.val + 1 → (running.cfg.signs.get n).station = none :=
  ⟨rfl, by decide +kernel, by decide +kernel, by decide +kernel, by decide +kernel, by decide +kernel⟩

theorem witness_SignShowAndBlankPublish :
    running.free ∧ running.busSettled = true ∧ (running.cfg.signs.get 0).station ≠ none ∧
      (running.cfg.signs.get 3).station = none ∧ Instr.signShow 1 = .signShow ((0 : SignId).val + 1) :=
  ⟨rfl, by decide +kernel, by decide +kernel, by decide +kernel, rfl⟩

/-- The junction with S1 and S2 in these states, and the transfer of sign 1 SUSPENDED. -/
def lost (a b : StationState) : State :=
  { running with
    stations := (running.stations.set 0 { Station.fresh with state := some a, score := 255 }).set 1
      { Station.fresh with state := some b, score := 9 }
    signs := running.signs.set 0 { Sign.fresh 8 8 with transfer := .suspended, chunk := some 0 } }

theorem witness_StationsReturnToServiceOrRefuse :
    ((lost .offline .suspended).link.inProcess = none ∧
        ((lost .offline .suspended).stations.get 0).state = some .offline ∧
        ((lost .offline .suspended).stations.get 1).state = some .suspended ∧
        ((lost .offline .suspended).cfg.signs.get 0).station = some 1 ∧
        ((lost .offline .suspended).signs.get 0).transfer = .suspended) ∧
      running.busSettled = true ∧ ¬(1 ≤ 33 ∧ 33 ≤ 32) ∧ ¬(1 ≤ 0 ∧ 0 ≤ 4) ∧
      (running.stations.get 0).state ≠ some .offline ∧ (running.stations.get 0).state ≠ some .suspended ∧
      (running.cfg.signs.get 1).station = none ∧ (running.signs.get 0).transfer ≠ .suspended := by decide +kernel

/-- S1 OFFLINE with a FAILED channel, S2 SUSPENDED, each with its fault standing and recorded. -/
def lostAndRecorded : State :=
  let known : List (FaultKind × FaultObject) :=
    [(.stationOffline, ⟨1, 0⟩), (.signFault, ⟨1, 0⟩), (.channelFailed, ⟨1, 1⟩)]
  let s := lost .offline .suspended
  State.putChannel
    { s with
      faults := known.map fun k => ⟨k.1, .report, k.2, .active, 0, 0, 1⟩
      monitor := { s.monitor with conditions := known.map fun k => ⟨k.1, .report, k.2⟩ } } ⟨0, 0⟩
    { Channel.fresh with state := .failed, cause := some .station, named := some (.groups [0]) }

theorem witness_StationsReturnToServiceOrRefuse_ends :
    FaultLaw lostAndRecorded ∧ lostAndRecorded.stands .stationOffline ⟨1, 0⟩ = true ∧
      (lostAndRecorded.cfg.stations.get 0).kind = .detector ∧ (lostAndRecorded.channel ⟨0, 0⟩).state = .failed ∧
      (lostAndRecorded.stuckLimit ⟨0, 0⟩).isSome = true ∧ (lostAndRecorded.cfg.stations.get 1).kind = .sign ∧
      lostAndRecorded.signOn 1 = some 0 ∧
      ∃ r ∈ lostAndRecorded.faults, r.kind = .signFault ∧ r.object = ⟨1, 0⟩ ∧ r.policy = .report ∧ r.state = .active := by
  unfold FaultLaw; decide +kernel

/-- A record of RED_OUT under policy FLASH. -/
def redOutRecord (state : FaultState) : FaultRecord := ⟨.redOut, .flash, ⟨2, 0⟩, state, 0, 0, 1⟩

/-- FAIL_FLASH with that record alone. -/
def failed (state : FaultState) : State := { flashing .failFlash with faults := [redOutRecord state] }

theorem witness_FaultsAreClearedOrRefused_clear :
    (failed .latched).link.inProcess = none ∧ (failed .latched).busSettled = true ∧
      ¬(1 ≤ 25 ∧ 25 ≤ 24) ∧ (1 ≤ 24 ∧ 24 ≤ 24) ∧ (1 ≤ 1 ∧ 1 < 2 ∧ 2 ≤ 24) ∧
      (∀ r ∈ (validFrame (failed .cleared)).faults, r.kind = .redOut → r.state ≠ .latched) ∧
      ((validFrame (failed .latched)).faults.find? fun x => x.kind == .redOut && x.policy == .flash) =
        some (redOutRecord .latched) := by decide +kernel

theorem witness_FaultsAreClearedOrRefused_reset : FaultLaw (failed .latched) ∧ ModeLaw (failed .latched) := by
  unfold FaultLaw ModeLaw; decide +kernel

theorem witness_EnterIsDecidedByItsTable :
    (running.link.inProcess = none ∧ running.busSettled = true ∧ ¬(1 ≤ 25 ∧ 25 ≤ 24)) ∧
      (let s := { green .held true with queue := [⟨1, .host, .held, none, 0⟩] }
       s.kind 1 ≠ .unused ∧ s.mode.mode = .run ∧ s.preempting = false ∧ (s.groups.get 1).inhibit = false ∧
         (s.groups.get 1).state = .red ∧ (∃ e ∈ s.queue, e.group = 1) ∧
         react { s with queue := [⟨1, .host, .actuated, some 50, 0⟩] } = none) ∧
      (let s := green .actuated true
       s.link.inProcess = none ∧ s.busSettled = true ∧ s.kind 1 ≠ .unused ∧ s.queue.length < 16 ∧
         react { s with queue := [⟨1, .host, .held, some 50, 0⟩] } = none) := by decide +kernel

theorem witness_EnterGrantedAtOnce :
    running.free ∧ running.kind 1 ≠ .unused ∧ running.mode.mode = .run ∧ running.calm ∧
      (running.groups.get 1).inhibit = false ∧ running.queue = [] ∧ (running.groups.get 1).state = .red ∧
      (running.groupCfg 1).minRed ≤ (running.groups.get 1).redAge ∧
      ∀ i time, running.intergreen i 1 = some time → (running.groups.get i).entering = false ∧
        time ≤ (running.groups.get i).greenEndAge + (running.groupCfg 1).prepTime := by
  refine ⟨rfl, by decide +kernel, rfl, by unfold State.calm; decide +kernel, by decide +kernel, rfl,
    by decide +kernel, by decide +kernel, ?_⟩
  have h : ∀ i : GroupId, (match running.intergreen i 1 with
      | none => true
      | some time => !(running.groups.get i).entering &&
          decide (time ≤ (running.groups.get i).greenEndAge + (running.groupCfg 1).prepTime)) = true := by
    decide +kernel
  intro i time e
  have := h i
  rw [e] at this
  simpa using this

/-- G2 in GREEN while P1 clears. -/
def clearing : State :=
  { green .held true with
    preempt := State.reset.preempt.set 0 { Preempt.fresh with state := .clearing, host := true } }

theorem witness_CancelAndLeaveAreDecided :
    clearing.preempting = true ∧ clearing.link.inProcess = none ∧ clearing.busSettled = true ∧
      (green .held false).preempting = false ∧ ((green .held false).groups.get 0).state = .green ∧
      ((green .held false).groups.get 0).minGreenPassed = false ∧ ((green .held false).groups.get 1).state = .red ∧
      (∀ e ∈ (green .held false).queue, e.group ≠ 1) ∧
      (let s := { green .held true with queue := [⟨1, .host, .held, none, 0⟩] }
       (∃ e ∈ s.queue, e.group = 1) ∧ react { s with queue := s.queue.filter fun e => !(e.group == 1) } = none) := by
  decide +kernel

theorem witness_GroupFlagsActItemByItem :
    running.link.inProcess = none ∧ running.busSettled = true ∧
      (let items : List FlagItem := [⟨1, some .set, some .set, some .withdraw⟩, ⟨3, some .clear, some .leave, some .latch⟩]
       items ≠ [] ∧ items.length ≤ 24 ∧ (items.map FlagItem.group).Nodup ∧
         ∀ x ∈ items, (1 ≤ x.group ∧ x.group ≤ 24) ∧ x.inhibit ≠ none ∧ x.recalls ≠ none ∧ x.call ≠ none ∧
           ∀ g : GroupId, x.group = g.val + 1 → running.kind g ≠ .unused) ∧
      running.kind 3 = .unused ∧ (⟨4, none, none, none⟩ : FlagItem).group = (3 : GroupId).val + 1 := by decide +kernel

/-- P1 in this state, asserted by the host or not. -/
def called (state : ChanState) (host : Bool) : State :=
  { running with preempt := State.reset.preempt.set 0 { Preempt.fresh with state := state, host := host } }

theorem witness_PreemptCallAssertsAndReleases :
    (running.link.inProcess = none ∧ running.busSettled = true ∧ ¬(1 ≤ 5 ∧ 5 ≤ 4)) ∧
      (react running = none ∧ (running.preempt.get 0).state = .idle ∧ (running.preempt.get 0).asserted = false ∧
        running.mode.mode = .run ∧ (running.cfg.preempt.get 0).delay ≠ 0 ∧
        ∀ q : PreemptId, q.val < (0 : PreemptId).val → (running.preempt.get q).state = .idle) ∧
      (react (flashing .flash) = none ∧ (flashing .flash).mode.mode ≠ .run) ∧
      (react (called .pending true) = none ∧ ((called .pending true).preempt.get 0).state = .pending ∧
        ((called .pending true).preempt.get 0).host = true ∧ ((called .pending true).preempt.get 0).sources = []) ∧
      (react (called .clearing true) = none ∧ ((called .clearing true).preempt.get 0).state = .clearing) := by
  decide +kernel

/-- P1 in this state with its phase timer at this time, called by the host, and P2 IDLE or PENDING behind it. -/
def behind (state second : ChanState) (phase : Nat) (overridden : Bool) : State :=
  { running with
    committed := some { junction with preempt := junction.preempt.set 1 (junction.preempt.get 0) }
    preempt := (State.reset.preempt.set 0 { Preempt.fresh with state := state, host := true, phase := some phase }).set 1
      { Preempt.fresh with state := second, host := second == .pending, overridden := overridden } }

theorem witness_PreemptCallAssertsAndReleases_delay :
    (let s := behind .delay .pending 5 false
     s.link.inProcess = none ∧ s.busSettled = true ∧ react s = none ∧ (s.preempt.get 0).state = .delay ∧
       (s.preempt.get 0).host = true ∧ (s.preempt.get 0).sources = [] ∧ s.mode.mode = .run ∧
       (s.preempt.get 1).state = .pending ∧ (∀ x : PreemptId, x ≠ 0 → (s.preempt.get x).state ≠ .delay) ∧
       (s.preempt.get 1).overridden = false ∧ (s.cfg.preempt.get 1).delay ≠ 0) ∧
      (react (behind .delay .pending 5 true) = none ∧ ((behind .delay .pending 5 true).preempt.get 1).host = true) ∧
      (react (behind .delay .idle 5 false) = none ∧
        ∀ q, ((behind .delay .idle 5 false).preempt.get q).state ≠ .pending) := by decide +kernel

theorem witness_PreemptCallAssertsAndReleases_dwell :
    (let s := behind .dwell .pending 200 false
     s.busSettled = true ∧ react s = none ∧ (s.preempt.get 0).state = .dwell ∧
       (s.cfg.preempt.get 0).dwellMin ≤ (s.preempt.get 0).phase.getD 0 ∧ (s.preempt.get 1).host = true) ∧
      (let s := behind .dwell .idle 200 false
       react s = none ∧
         react { s with preempt := s.preempt.set 0 { s.preempt.get 0 with host := false, state := .idle, phase := none } } =
           none) ∧
      (react (behind .dwell .idle 199 false) = none ∧
        ((behind .dwell .idle 199 false).preempt.get 0).phase.getD 0 <
          ((behind .dwell .idle 199 false).cfg.preempt.get 0).dwellMin) := by decide +kernel

theorem witness_ModeRequestFollowsItsTable :
    (running.link.inProcess = none ∧ running.busSettled = true) ∧
      ((failed .latched).mode.mode = .failFlash ∧ (failed .latched).busSettled = true) ∧
      (State.reset.committed = none ∧ State.reset.mode.mode ≠ .failFlash ∧ Mode.run ≠ .configure) ∧
      ((flashing .flash).mode.mode = .flash ∧ (flashing .flash).committed.isSome = true) ∧
      (running.mode.mode = .run ∧ Mode.dark ≠ .run) := by decide +kernel

theorem witness_ClosingAndItsReturn :
    ((green .held true).link.inProcess = none ∧ (green .held true).committed.isSome = true ∧
        (green .held true).mode.mode = .run) ∧
      (let s := standing ⟨.runClosing, none, none, some .draining, .stopped⟩ (three resting resting resting)
       s.link.inProcess = none ∧ s.committed.isSome = true ∧ s.mode.mode = .runClosing ∧ s.busSettled = true ∧
         s.queue = [] ∧ ∀ p, (s.preempt.get p).state = .idle) := by decide +kernel

/-- An ACTUATED green of G1 with these timers. -/
def actuated (past : Bool) (gap : GapTimer) (elapsed : Option Nat) : State :=
  { green .actuated past with demand := State.reset.demand.set 0 { Demand.fresh with timers := some ⟨gap, elapsed, 200⟩ } }

theorem witness_calm_green : (green .held true).calm ∧ (green .held false).calm := by
  unfold State.calm; decide +kernel

theorem witness_GreensEndWithTheirReason :
    ((green .held true).link.inProcess = none ∧ ((green .held true).groups.get 0).state = .green ∧
        ((green .held true).groups.get 0).minGreenPassed = true) ∧
      ((actuated true (.running 0) none).demand.get 0).timers = some ⟨.running 0, none, 200⟩ ∧
      (((actuated true .holding (some 200)).demand.get 0).timers = some ⟨.holding, some 200, 200⟩ ∧ 200 ≤ 200) ∧
      (((green .held false).groups.get 0).minGreenPassed = false ∧
        ((green .held false).groupCfg 0).minGreen ≤ ((green .held false).groups.get 0).greenElapsed ∧
        ((green .held false).groups.get 0).leavePending = false ∧ ((green .held false).demand.get 0).timers = none ∧
        (green .held false).mode.mode ≠ .runClosing) ∧
      (((actuated false .expired none).demand.get 0).timers = some ⟨.expired, none, 200⟩) ∧
      (((actuated false (.running 0) none).groups.get 0).minGreenPassed = false ∧
        react (actuated false (.running 0) none) = none) := by decide +kernel

/-- G1 with this record, the others in RED, in RUN. -/
def withFirst (r : Group) : State := standing ⟨.run, none, none, none, .stopped⟩ (three r resting resting)

theorem witness_PrepAndClearEnd :
    (let s := withFirst { resting with state := .prep, prepTimer := 0, policy := some .actuated }
     (s.groups.get 0).state = .prep ∧ (s.groupCfg 0).prepTime ≤ (s.groups.get 0).prepTimer ∧
       s.conflicts 0 0 = false ∧ (s.groups.get 0).policy = some .actuated ∧
       ∀ p, (s.preempt.get p).state = .idle) ∧
      (let s := withFirst { Group.fresh with state := .clear, clearTimer := 30 }
       (s.groups.get 0).state = .clear ∧ (s.groupCfg 0).clearTime ≤ (s.groups.get 0).clearTimer ∧
         s.monitor.clearance.get 0 = .none ∧ (s.output 0 .red).health ≠ .low ∧ (∀ e ∈ s.queue, e.group ≠ 0) ∧
         ∀ p, (s.preempt.get p).state = .idle) := by decide +kernel

/-- `withFirst` in CLEAR with its time run, the red sensed, and this clearance measured. -/
def clearedWith (sensed : Bool) (c : Clearance) : State :=
  let s := withFirst { Group.fresh with state := .clear, clearTimer := 30 }
  State.putClearance (State.putOutput s 0 .red { s.output 0 .red with sensed := sensed }) 0 c

/-- The three ways in which a clearance is not short at CLEAR_END, the last at its bound. -/
theorem witness_PrepAndClearEnd_unshort :
    ((clearedWith false (.running 2700)).output 0 .red).sensed = false ∧
      ((clearedWith true (.running 2800)).monitor.clearance.get 0 = .running 2800 ∧
        100 * ((clearedWith true (.running 2800)).groupCfg 0).clearTime ≤ 2800 + 200) ∧
      ¬100 * ((clearedWith true (.running 2800)).groupCfg 0).clearTime ≤ 2799 + 200 := by decide +kernel

/-- P1 in CLEARING with this track list, G2 with this record, and this entry of the host in the queue. -/
def inClearing (track : List GroupId) (first second : Group) (queue : List Entry) : State :=
  { standing ⟨.run, none, none, none, .stopped⟩ (three first second resting) with
    committed := some { junction with preempt := junction.preempt.set 0 ⟨20, 50, track, 150, [2], 200, some 0, true⟩ }
    preempt := State.reset.preempt.set 0 { Preempt.fresh with state := .clearing, host := true }
    queue := queue }

/-- A PREP at its end, and a CLEAR at its end. -/
def prepared : Group := { resting with state := .prep, prepTimer := 10, policy := some .held }
def cleared : Group := { Group.fresh with state := .clear, clearTimer := 30 }

/-- The laws at a state of P1 in CLEARING. -/
theorem inClearing_laws (track : List GroupId) (first second : Group) (queue : List Entry) (h : track.Nodup)
    (hq : (queue.map Entry.group).Nodup)
    (he : ∀ e ∈ queue, ((inClearing track first second queue).groups.get e.group).entering = false) :
    SequenceLaw (inClearing track first second queue) ∧ QueueLaw (inClearing track first second queue) := by
  refine ⟨⟨?_, ?_, ?_⟩, hq, he, ?_, ?_⟩
  · exact (by decide +kernel : ∀ p q, (clearing.preempt.get p).working = true →
      (clearing.preempt.get q).working = true → p = q)
  · exact (by decide +kernel : ∀ p q : PreemptId, p.val < q.val → (clearing.preempt.get q).state = .delay →
      (clearing.preempt.get p).working = false ∧ (clearing.preempt.get p).state ≠ .delay)
  · intro hm; exact absurd rfl hm
  · intro p
    match p with
    | 0 => exact h
    | 1 | 2 | 3 => exact List.nodup_nil
  · intro w hw; cases hw

theorem witness_PrepAndClearEnd_track :
    (let s := inClearing [1] resting prepared [⟨0, .host, .held, none, 0⟩]
     SequenceLaw s ∧ QueueLaw s) ∧
      (let s := inClearing [1] resting prepared [⟨0, .host, .held, none, 0⟩]
       (s.preempt.get 0).state = .clearing ∧ (∀ q, q ≠ 0 → (s.preempt.get q).state = .idle) ∧
         (s.groups.get 1).state = .prep ∧ (s.groupCfg 1).prepTime ≤ (s.groups.get 1).prepTimer ∧
         1 ∈ (s.cfg.preempt.get 0).track ∧ (s.cfg.preempt.get 0).trackTime ≠ 0 ∧ (∀ e ∈ s.queue, e.origin = .host) ∧
         ∀ h ∈ (s.cfg.preempt.get 0).track, h ≠ 1 → (s.groups.get h).state = .green) ∧
      (let s := inClearing [1, 2] resting prepared []
       (∀ e ∈ s.queue, e.origin = .host) ∧
         ∃ h ∈ (s.cfg.preempt.get 0).track, h ≠ 1 ∧ (s.groups.get h).state ≠ .green) :=
  ⟨inClearing_laws _ _ _ _ (by decide) (by decide) (by decide +kernel), by decide +kernel, by decide +kernel⟩

theorem witness_PrepAndClearEnd_dwell :
    (let s := inClearing [] resting cleared [⟨0, .host, .held, none, 0⟩]
     SequenceLaw s ∧ QueueLaw s) ∧
      (let s := inClearing [] resting cleared [⟨0, .host, .held, none, 0⟩]
       (s.groups.get 1).state = .clear ∧ (s.groupCfg 1).clearTime ≤ (s.groups.get 1).clearTimer ∧
         s.monitor.clearance.get 1 = .none ∧ (s.output 1 .red).health ≠ .low ∧
         (s.cfg.preempt.get 0).track = [] ∧ (s.cfg.preempt.get 0).dwellMin ≠ 0 ∧
         (∀ e ∈ s.queue, e.origin = .host ∨ e.group ∈ (s.cfg.preempt.get 0).dwell) ∧
         ∀ h, h = 1 ∨ h ∈ (s.cfg.preempt.get 0).dwell ∨ (s.groups.get h).serving = false) ∧
      (let s := inClearing [] cleared cleared []
       ∃ h, h ≠ 1 ∧ h ∉ (s.cfg.preempt.get 0).dwell ∧ (s.groups.get h).serving = true) :=
  ⟨inClearing_laws _ _ _ _ (by decide) (by decide) (by decide +kernel), by decide +kernel, 0, by decide +kernel⟩

theorem witness_PrepAndClearEnd_max :
    (let s := inClearing [1] resting (serving .actuated true) [⟨2, .preempt 0, .held, none, 0⟩]
     SequenceLaw s ∧ QueueLaw s) ∧
      (let s := { inClearing [1] resting (serving .actuated true) [⟨2, .preempt 0, .held, none, 0⟩] with
         demand := State.reset.demand.set 1 { Demand.fresh with timers := some ⟨.holding, some 200, 200⟩ } }
       (s.demand.get 1).timers = some ⟨.holding, some 200, 200⟩ ∧ (s.groups.get 1).state = .green ∧
         1 ∈ (s.cfg.preempt.get 0).track ∧
         ∀ e ∈ s.queue, e.origin = .host ∨ e.group ∈ (s.cfg.preempt.get 0).track ∨
           e.group ∈ (s.cfg.preempt.get 0).dwell) :=
  ⟨inClearing_laws _ _ _ _ (by decide) (by decide) (by decide +kernel), by decide +kernel⟩

theorem witness_ScanGrantsTheFirstEntryThatMay :
    (let s := { running with queue := [⟨1, .host, .held, none, 0⟩] }
     (s.groups.get 1).state = .red ∧ (s.groupCfg 1).minRed ≤ (s.groups.get 1).redAge ∧ s.kind 1 ≠ .unused ∧
       s.mode.mode = .run ∧ (s.queue.map Entry.group).Nodup ∧
       (∀ h : GroupId, ((s.intergreen h 1).all fun time =>
         !(s.groups.get h).entering && time ≤ (s.groups.get h).greenEndAge + (s.groupCfg 1).prepTime) = true) ∧
       ∀ p, (s.preempt.get p).state = .idle) ∧
      (running.queue = [] ∧ ∀ p, (running.preempt.get p).state = .idle) := by decide +kernel

/-- START_RED with its time run, P1 in this state. -/
def starting (state : ChanState) : State :=
  { standing ⟨.startRed, none, some 20, none, .stopped⟩ (three resting resting resting) with
    preempt := State.reset.preempt.set 0 { Preempt.fresh with state := state, host := true } }

theorem witness_ModesPassOnByTheirTimers :
    (let s := flashing .startFlash
     s.mode.mode = .startFlash ∧ s.mode.phase = some 30 ∧ s.cfg.global.startFlash ≤ 30 ∧
       ∀ g, (s.output g .red).health ≠ .low) ∧
      ((starting .idle).mode.mode = .startRed ∧ (starting .idle).mode.phase = some 20 ∧
        (starting .idle).cfg.global.startRed ≤ 20 ∧ (starting .idle).queue = [] ∧
        ∀ p, ((starting .idle).preempt.get p).state = .idle) ∧
      ((∀ p, ((starting .pending).preempt.get p).state = .idle ∨ ((starting .pending).preempt.get p).state = .pending) ∧
        ((starting .pending).preempt.get 0).state = .pending ∧
        ((starting .pending).preempt.get 0).overridden = false ∧
        ((starting .pending).cfg.preempt.get 0).delay ≠ 0) ∧
      (let s := standing ⟨.runClosing, none, some 20, some .allRed, .stopped⟩ (three resting resting resting)
       s.mode.mode = .runClosing ∧ s.mode.stage = some .allRed ∧ s.mode.phase = some 20 ∧
         s.cfg.global.startRed ≤ 20) := by decide +kernel

/-- P1 in this state for this time, G1 in GREEN, G2 in CLEAR. -/
def sequencing (state : ChanState) (phase : Nat) (host : Bool) : State :=
  { standing ⟨.run, none, none, none, .stopped⟩
      (three (serving .held true) { Group.fresh with state := .clear } resting) with
    preempt := State.reset.preempt.set 0 { Preempt.fresh with state := state, phase := some phase, host := host } }

theorem witness_sequencing :
    SequenceLaw (sequencing .delay 20 true) ∧ SequenceLaw (sequencing .track 150 true) ∧
      SequenceLaw (sequencing .dwell 200 false) := by
  refine ⟨?_, ?_, ?_⟩ <;> (unfold SequenceLaw State.calm; decide +kernel)

theorem witness_DelayEndsInClearing :
    (let s := sequencing .delay 20 true
     (s.preempt.get 0).state = .delay ∧ (s.preempt.get 0).phase = some 20 ∧ (s.cfg.preempt.get 0).delay ≤ 20 ∧
       1 ∈ (s.cfg.preempt.get 0).track ∧ (s.groups.get 1).state = .clear) := by decide +kernel

/-- P1 at the end of its DELAY while P2, which links sign 2 on S3, is in DWELL with an entry, the host with another. -/
def displacing : State :=
  let s := sequencing .delay 20 true
  { s with
    committed := some { junction with
      preempt := junction.preempt.set 1 ⟨0, 0, [], 0, [2], 100, some 1, false⟩
      stations := junction.stations.set 2 ⟨.sign, false⟩
      signs := junction.signs.set 1 ⟨some 2, 8, 8, .d1⟩ }
    preempt := s.preempt.set 1 { Preempt.fresh with state := .dwell, host := true, phase := some 0 }
    queue := [⟨2, .preempt 1, .held, none, 0⟩, ⟨1, .host, .held, none, 0⟩] }

theorem witness_DelayEndsInClearing_queue : SequenceLaw displacing ∧ QueueLaw displacing := by
  refine ⟨?_, by decide, by decide +kernel, by unfold Configuration.tracksDistinct; decide +kernel, ?_⟩
  · unfold SequenceLaw State.calm; decide +kernel
  · intro w h; cases h

theorem witness_DelayEndsInClearing_signs :
    (displacing.preempt.get 0).state = .delay ∧ 1 ∈ (displacing.cfg.preempt.get 0).track ∧
      (displacing.groups.get 1).state = .clear ∧
      ((displacing.cfg.preempt.get 0).sign = some 0 ∧ (displacing.cfg.signs.get 0).station ≠ none) ∧
      ((displacing.preempt.get 1).working = true ∧ (displacing.cfg.preempt.get 1).sign = some 1 ∧
        (displacing.cfg.signs.get 1).station ≠ none) := by decide +kernel

theorem witness_SequencesPassOnByTheirTimers_queue : QueueLaw (sequencing .track 150 true) := by
  refine ⟨by decide, by decide +kernel, by unfold Configuration.tracksDistinct; decide +kernel, ?_⟩
  intro w h; cases h

theorem witness_SequencesPassOnByTheirTimers :
    (let s := sequencing .track 150 true
     (s.preempt.get 0).state = .track ∧ (s.preempt.get 0).phase = some 150 ∧ (s.cfg.preempt.get 0).trackTime ≤ 150 ∧
       (s.cfg.preempt.get 0).dwellMin ≠ 0 ∧ ∀ q, (s.preempt.get q).state ≠ .delay) ∧
      (let s := sequencing .dwell 200 false
       (s.preempt.get 0).state = .dwell ∧ (s.preempt.get 0).phase = some 200 ∧
         (s.cfg.preempt.get 0).dwellMin ≤ 200 ∧ (s.preempt.get 0).asserted = false ∧
         (∀ q, q ≠ 0 → (s.preempt.get q).state = .idle) ∧
         react { s with preempt := s.preempt.set 0 { s.preempt.get 0 with state := .idle, phase := none } } = none) ∧
      (let s := sequencing .track 0 true
       (s.preempt.get 0).working = true ∧ (s.groups.get 0).state = .green ∧
         (s.cfg.preempt.get 0).preemptMin ≤ (s.groups.get 0).greenElapsed ∧ 0 ∉ (s.cfg.preempt.get 0).dwell ∧
         (0 ∈ (s.cfg.preempt.get 0).track → (s.preempt.get 0).state = .dwell)) := by decide +kernel

theorem witness_SensesAreCompared :
    running.busSettled = true ∧ (running.output 0 .red).sensed = true ∧ running.committed.isSome = true ∧
      running.monitor.clearance.get 0 = .none ∧ ((green .held true).output 0 .red).sensed = false ∧
      ((green .held true).output 0 .green).sensed = true ∧ (State.reset.output 0 .red).sensed ≠ true ∧
      (State.reset.committed = none ∧ State.reset.busSettled = true) ∧
      (State.putClearance running 0 .armed).monitor.clearance.get 0 = .armed ∧
      ((State.putClearance running 0 .armed).output 0 .amber).sensed ≠ true := by decide +kernel

/-- The junction at rest, the red of G1 not sensed, with this clearance measured. -/
def measuring (c : Clearance) : State :=
  State.putClearance (State.putOutput running 0 .red { running.output 0 .red with sensed := false }) 0 c

/-- G1 in RED with its green sensed beside its red, and this clear_time. -/
def bothSensed (clearTime : Nat) : State :=
  let s := State.putOutput running 0 .green { running.output 0 .green with sensed := true }
  { s with committed := some { junction with
      groups := junction.groups.set 0 ⟨.vehicle, 50, 200, 20, clearTime, 0, 10⟩ } }

/-- A clearance ends at its bound, armed at a clear_time of 0.2 s; a red not commanded ON, and a green beside a red. -/
theorem witness_SensesAreCompared_ends :
    ((measuring (.running 2800)).output 0 .red).sensed ≠ true ∧
      ((measuring (.running 2800)).output 0 .red).commanded = .on ∧
      (measuring (.running 2800)).monitor.clearance.get 0 = .running 2800 ∧
      100 * ((measuring (.running 2800)).groupCfg 0).clearTime ≤ 2800 + 200 ∧
      (measuring .armed).monitor.clearance.get 0 = .armed ∧
      ((green .held true).output 0 .red).commanded ≠ .on ∧
      (((bothSensed 2).output 0 .green).sensed ≠ false ∧ ((bothSensed 2).output 0 .red).sensed = true ∧
        ((bothSensed 2).output 0 .red).commanded = .on ∧ 100 * ((bothSensed 2).groupCfg 0).clearTime ≤ 200) := by
  decide +kernel

/-- A red that has been sensed absent for 0.3 s. -/
def disagreeing (c : Colour) (settle mismatch : Option Nat) : State :=
  State.putOutput running 0 c { running.output 0 c with settle := settle, mismatch := mismatch }

theorem witness_DisagreementsAndSilenceAreTimed :
    ((disagreeing .red (some 0) none).busSettled = true ∧
        ((disagreeing .red (some 0) none).output 0 .red).settle = some 0 ∧ (running.output 0 .red).settle ≠ some 0) ∧
      (let s := disagreeing .red none (some 300)
       (s.output 0 .red).settle = none ∧ (s.output 0 .red).mismatch = some 300 ∧
         (s.output 0 .red).standing = false ∧ s.committed.isSome = true ∧
         s.stands .outputMismatch ⟨1, 1⟩ = false ∧ s.faults.length < 24 ∧
         ∀ r ∈ s.faults, r.kind ≠ .outputMismatch ∨ r.object ≠ ⟨1, 1⟩) ∧
      (running.mode.silence = .running 10 ∧ 10 < 10 * running.cfg.global.silence) ∧
      (let s := { running with mode := { running.mode with silence := .running 100 } }
       s.busSettled = true ∧ 10 * s.cfg.global.silence ≤ 100 ∧ s.cfg.global.hostSilent = .report ∧
         s.stands .hostSilent ⟨0, 0⟩ = false ∧ ∀ r ∈ s.faults, r.kind ≠ .hostSilent) := by decide +kernel

theorem witness_SequenceLaw : SequenceLaw running := by unfold SequenceLaw State.calm; decide +kernel

theorem witness_FlashFaultsStopTheJunction :
    (running.committed.isSome = true ∧ running.mode.mode ≠ .failFlash ∧
        running.stands .greenMismatch ⟨1, 3⟩ = false ∧ running.stands .conflict ⟨1, 2⟩ = false ∧
        (∀ r ∈ running.faults, r.kind ≠ .greenMismatch) ∧ running.faults.length < 24) ∧
      (((disagreeing .green none (some 300)).output 0 .green).settle = none ∧
        ((disagreeing .green none (some 300)).output 0 .green).mismatch = some 300 ∧
        ((disagreeing .green none (some 300)).output 0 .green).standing = false) ∧
      (⟨0, 1, 200, false⟩ : Overlap) ∈ ({ running with
        monitor := { running.monitor with overlaps := [⟨0, 1, 200, false⟩] } } : State).monitor.overlaps ∧
      (let s := State.putClearance (State.putOutput running 0 .red { running.output 0 .red with sensed := false }) 0
         (.running 2799)
       (s.output 0 .red).sensed = false ∧ (s.output 0 .red).commanded = .on ∧
         s.monitor.clearance.get 0 = .running 2799 ∧ 2799 + 200 < 100 * (s.groupCfg 0).clearTime) ∧
      (let s := { running with
         committed := some { junction with global := ⟨30, 20, 10, .flash, .report⟩ }
         mode := { running.mode with silence := .running 100 } }
       s.mode.silence = .running 100 ∧ 10 * s.cfg.global.silence ≤ 100 ∧ s.cfg.global.hostSilent = .flash) := by
  decide +kernel

/-- The other ways to a SHORT_CLEAR: armed, a green found absent beside a red, and at CLEAR_END. -/
theorem witness_FlashFaultsStopTheJunction_short :
    ((measuring .armed).monitor.clearance.get 0 = .armed ∧ 0 + 200 < 100 * ((measuring .armed).groupCfg 0).clearTime) ∧
      (((bothSensed 3).output 0 .green).sensed = true ∧ ((bothSensed 3).output 0 .red).sensed = true ∧
        ((bothSensed 3).output 0 .red).commanded = .on ∧ ((bothSensed 3).groups.get 0).state = .red ∧
        (bothSensed 3).kind 0 ≠ .unused ∧ 0 + 200 < 100 * ((bothSensed 3).groupCfg 0).clearTime) ∧
      (let s := clearedWith true (.running 2799)
       (s.groups.get 0).state = .clear ∧ (s.groupCfg 0).clearTime ≤ (s.groups.get 0).clearTimer ∧
         (s.output 0 .red).sensed = true ∧ s.kind 0 ≠ .unused ∧ s.monitor.clearance.get 0 = .running 2799 ∧
         2799 + 200 < 100 * (s.groupCfg 0).clearTime) := by decide +kernel

/-- R128: an armed measurement of clear_time 3.0 s that ends at once stops the junction, and one of 3.0 s less 0.2 s does
not. -/
theorem test_short_clear :
    (after (.sensedVoltageChange 0 .red true) (measuring .armed)).mode.mode = .failFlash ∧
      (after (.sensedVoltageChange 0 .red true) (measuring (.running 2800))).mode.mode = .run := by decide +kernel

/-- A state with these records and conditions, a notice on the line. -/
def withFaults (s : State) (faults : List FaultRecord) (conditions : List Condition) : State :=
  { s with
    faults := faults, monitor := { s.monitor with conditions := conditions }
    link := { s.link with sending := some (.notice ⟨0, .overrun 1⟩) } }

/-- A record of OUTPUT_MISMATCH of G1's red. -/
def redMismatch (state : FaultState) : FaultRecord := ⟨.outputMismatch, .report, ⟨1, 1⟩, state, 0, 0, 1⟩

/-- A record of GREEN_MISMATCH, made for G2's green. -/
def greenRecord : FaultRecord := ⟨.greenMismatch, .flash, ⟨2, 3⟩, .active, 0, 0, 1⟩

/-- FAIL_FLASH for that record, with the greens of these groups in a mismatch. -/
def greensFailed (objects : List Nat) : State :=
  let s := withFaults (flashing .failFlash) [greenRecord] (objects.map fun n => ⟨.greenMismatch, .flash, ⟨n, 3⟩⟩)
  s.putOutput 0 .green { s.output 0 .green with mismatch := some 300 }

/-- A full table: twenty-four stations OFFLINE, or long returned. -/
def fullTable (state : FaultState) : List FaultRecord :=
  (List.range 24).map fun k => ⟨.stationOffline, .report, ⟨k + 1, 0⟩, state, 0, 0, 1⟩

/-- A red in a mismatch of 0.3 s, and the table full. -/
def crammed (state : FaultState) : State :=
  withFaults (disagreeing .red none (some 300)) (fullTable state)
    ((List.range 24).map fun k => ⟨.stationOffline, .report, ⟨k + 1, 0⟩⟩)

theorem witness_OccurrencesFindTheirRecord :
    (let s := withFaults (disagreeing .red none (some 300)) [redMismatch .cleared] []
     s.committed.isSome = true ∧ s.stands .outputMismatch ⟨1, 1⟩ = false ∧ s.link.sending.isSome = true ∧
       (s.output 0 .red).mismatch = some 300 ∧ s.faults = [] ++ redMismatch .cleared :: []) ∧
      (let s := greensFailed [2]
       s.stands .greenMismatch ⟨1, 3⟩ = false ∧ (s.output 0 .green).mismatch = some 300 ∧
         (s.output 0 .green).settle = none ∧ s.faults = [] ++ greenRecord :: [] ∧ greenRecord.state = .active) ∧
      ((crammed .cleared).faults.length = 24 ∧
        (∀ r ∈ (crammed .cleared).faults, r.kind ≠ .outputMismatch)) ∧
      ((∀ r ∈ (crammed .active).faults, r.state ≠ .cleared) ∧
        ∀ r ∈ (crammed .active).faults, r.policy = .report) := by
  decide +kernel

theorem witness_OccurrencesFindTheirRecord_law :
    FaultLaw (withFaults (disagreeing .red none (some 300)) [redMismatch .cleared] []) ∧ FaultLaw (greensFailed [2]) ∧
      FaultLaw (crammed .cleared) ∧ FaultLaw (crammed .active) := by
  refine ⟨?_, ?_, ?_, ?_⟩ <;> (unfold FaultLaw; decide +kernel)

/-- G1's red found in agreement at its settle end, after a mismatch that stood. -/
def agreeing (faults : List FaultRecord) : State :=
  let s := withFaults running faults [⟨.outputMismatch, .report, ⟨1, 1⟩⟩]
  s.putOutput 0 .red { s.output 0 .red with settle := some 0, standing := true }

/-- G1 in this state, the health of its red as given, with a check of its current due. -/
def reddening (state : GroupState) (health : Health) (policy : FaultPolicy) : State :=
  let s := withFirst { resting with state := state, clearTimer := 30 }
  { s with committed := some { junction with global := ⟨30, 20, 10, .report, policy⟩ } }.putOutput 0 .red
    { s.output 0 .red with health := health, lowCount := 2, bandCount := 2, checkIn := some 0 }

/-- The same, with RED_OUT recorded under policy REPORT. -/
def reddened (mode : Mode) : State :=
  let s := reddening .red .low .report
  { s with
    mode := ⟨mode, none, some 0, none, .stopped⟩
    faults := [⟨.redOut, .report, ⟨1, 0⟩, .active, 0, 0, 1⟩]
    monitor := { s.monitor with conditions := [⟨.redOut, .report, ⟨1, 0⟩⟩] } }

theorem witness_ConditionsEndAndRedsGoOut :
    (let s := agreeing [redMismatch .active]
     s.committed.isSome = true ∧ s.link.sending.isSome = true ∧ (s.output 0 .red).settle = some 0 ∧
       (s.output 0 .red).sensed = (s.output 0 .red).expected ∧ (s.output 0 .red).standing = true ∧
       ⟨.outputMismatch, .report, ⟨1, 1⟩⟩ ∈ s.monitor.conditions) ∧
      (⟨.greenMismatch, .flash, ⟨1, 3⟩⟩ : Condition) ≠ ⟨.greenMismatch, .flash, ⟨2, 3⟩⟩ ∧ (agreeing []).faults = [] ∧
      ((requestKind .dimReset).isSome = true ∧ (busyState none []).link.inProcess.isSome = true) := by
  decide +kernel

theorem witness_ConditionsEndAndRedsGoOut_law :
    (FaultLaw (agreeing [redMismatch .active]) ∧ FaultLaw (greensFailed [1, 2]) ∧ FaultLaw (agreeing [])) ∧
      (FaultLaw (reddening .red .ok .flash) ∧ FaultLaw (reddening .clear .low .report) ∧ FaultLaw (reddened .run) ∧
        FaultLaw (reddened .startRed)) ∧
      SequenceLaw (reddening .red .ok .flash) ∧ SequenceLaw (reddening .clear .low .report) ∧
      SequenceLaw (reddened .run) ∧ SequenceLaw (reddened .startRed) := by
  refine ⟨⟨?_, ?_, ?_⟩, ⟨?_, ?_, ?_, ?_⟩, ?_, ?_, ?_, ?_⟩ <;>
    first | (unfold FaultLaw; decide +kernel) | (unfold SequenceLaw State.calm; decide +kernel)

theorem witness_ConditionsEndAndRedsGoOut_red :
    (let s := reddening .red .ok .flash
     s.committed.isSome = true ∧ s.kind 0 = .vehicle ∧ s.stands .redOut ⟨1, 0⟩ = false ∧
       s.faults = [] ∧ (s.output 0 .red).checkIn = some 0 ∧ (s.output 0 .red).dutyChanged = false ∧
       (s.output 0 .red).health ≠ .low ∧ 2 ≤ (s.output 0 .red).lowCount ∧
       9 < ((s.cfg.outputs.get 0).get .red).iNom * (s.output 0 .red).duty / 200 ∧ s.mode.mode ≠ .failFlash) ∧
      (let s := reddening .clear .low .report
       (s.output 0 .red).health = .low ∧ (s.groups.get 0).state = .clear ∧
         (s.groupCfg 0).clearTime ≤ (s.groups.get 0).clearTimer ∧ (∀ p, (s.preempt.get p).state = .idle) ∧
         s.queue = [] ∧ s.monitor.clearance.get 0 = .none) ∧
      (let s := reddened .run
       2 ≤ (s.output 0 .red).bandCount ∧
         ((s.cfg.outputs.get 0).get .red).iNom * (s.output 0 .red).duty / 200 ≤ 60) ∧
      (let s := reddened .startRed
       s.mode.mode = .startRed ∧ s.link.inProcess = none ∧
         (s.groups.get 0).state = .red) := by
  decide +kernel

theorem witness_CurrentChecksGiveTheHealth :
    running.busSettled = true ∧ running.committed.isSome = true ∧ FaultLaw running ∧
      (running.output 0 .red).checkIn ≠ some 0 ∧
      (let o := { running.output 0 .red with checkIn := some 0 }
       ((State.putOutput running 0 .red o).output 0 .red).checkIn = some 0 ∧ o.dutyChanged = false ∧
         running.cfg.global.redOut = .report) ∧
      ({ running.output 0 .red with checkIn := some 0, dutyChanged := true } : Output).dutyChanged = true := by
  unfold FaultLaw; decide +kernel

theorem witness_PollsBecomeDueAndTheBusIsGranted :
    running.bus.cycleMs < running.cfg.pollPeriod ∧ running.committed.isSome = true ∧ running.bus.halfDone = false ∧
      running.cfg.pollPeriod ≤ ({ running with bus := { running.bus with cycleMs := 200 } } : State).bus.cycleMs ∧
      running.cfg.pollPeriod / 2 ≤ ({ running with bus := { running.bus with cycleMs := 100 } } : State).bus.cycleMs ∧
      running.bus.cycleMs < running.cfg.pollPeriod / 2 := by decide +kernel

/-- The last moment of the 8 ms after a link reset, S1's poll due or not, sign 1 SENDING or not. -/
def guarded (due sending : Bool) : State :=
  { running with
    bus := { State.reset.bus with guardLeft := some 0 }
    stations := running.stations.set 0 { Station.fresh with state := some .polling, due := due }
    signs := running.signs.set 0
      { Sign.fresh 8 8 with transfer := if sending then .sending else .idle, chunk := some 0 } }

theorem witness_PollsBecomeDueAndTheBusIsGranted_grant :
    (guarded true true).bus.transaction = none ∧ (guarded true true).bus.guardLeft = some 0 ∧
      (((guarded true true).stations.get 0).due = true ∧ ((guarded true true).cfg.stations.get 0).urgent = true) ∧
      ((∀ st, ((guarded false true).stations.get st).due = false) ∧
        ((guarded false true).signs.get 0).transfer = .sending ∧
        ((guarded false true).cfg.signs.get 0).station = some 1 ∧
        ((guarded false true).stations.get 1).state = some .polling) ∧
      (∀ st, ((guarded false false).stations.get st).due = false) ∧
      ∀ n, ((guarded false false).signs.get n).transfer ≠ .sending := by decide +kernel

theorem witness_StationRepliesKeepTheScore :
    (polled 4).bus.transaction = some ⟨0, .poll, [], some 8, 4, false, false⟩ ∧
      ([0xA7, 1, 1, 0x10, 0, 0] : List Byte)[0]? ≠ some 0xA6#8 ∧ ([] : List Byte).length < 6 := by decide +kernel

/-- A poll of S1 in its window, S1 in this state with this score. -/
def scored (state : StationState) (score : Nat) : State :=
  { polled 0 with stations := running.stations.set 0 { Station.fresh with state := some state, score := score } }

/-- The bounds of the score, and what is lost with S1 and with S2. -/
theorem witness_StationRepliesKeepTheScore_score :
    (∀ st, ((scored st 0).bus.transaction.map fun x => (x.stale, x.job)) = some (false, .poll)) ∧
      ((scored .polling 120).stations.get 0).score + 8 = 128 ∧
      (((scored .polling 88).stations.get 0).warned = false ∧ ((scored .polling 88).stations.get 0).score + 8 = 96) ∧
      ((scored .degraded 128).stations.get 0).score - 1 < 128 ∧
      ((scored .degraded 247).stations.get 0).score + 8 = 255 ∧
      (255 < ((scored .degraded 248).stations.get 0).score + 8 ∧ (scored .degraded 248).committed.isSome = true ∧
        ((scored .degraded 248).cfg.stations.get 0).kind = .detector ∧
        ((scored .degraded 248).stuckLimit ⟨0, 0⟩).isSome = true ∧
        ((scored .degraded 248).channel ⟨0, 0⟩).state ≠ .failed ∧ (scored .degraded 248).faults = [] ∧
        (scored .degraded 248).stands .stationOffline ⟨1, 0⟩ = false) ∧
      (running.cfg.stations.get 1).kind = .sign ∧ running.signOn 1 = some 0 ∧
      (let s := { polled 3 with stations := running.stations.set 0 { Station.fresh with retries := 2 } }
       2 ≤ (s.stations.get 0).retries ∧ (s.bus.transaction.map (·.waits)) = some 3) := by
  refine ⟨?_, by decide +kernel⟩
  intro st; cases st <;> decide

/-- The bounds of the reply: its retries and waits, its LENGTH, its CHECK, its STATUS and its body. -/
theorem witness_StationRepliesKeepTheScore_frame :
    (13#8).toNat = (List.replicate 12 1#8).length + 1 ∧ (List.replicate 12 (1#8 : Byte)).length % 2 = 0 ∧
      (2#8).toNat = ([1#8] : List Byte).length + 1 ∧ ([1#8] : List Byte).length % 2 = 1 ∧
      (15#8).toNat = (List.replicate 14 (1#8 : Byte)).length + 1 ∧ 12 < (List.replicate 14 (1#8 : Byte)).length ∧
      (0x0F#8).toNat < 0x10 ∧ 0x14 < (0x15#8).toNat ∧
      ([0xA6#8, 1#8, 0#8, 0x10#8, 0#8, 0#8] : List Byte)[2]? = some 0#8 ∧
      ([0xA6#8, 1#8, 2#8, 0x10#8, 0#8, 0#8] : List Byte).length < (2#8).toNat + 5 ∧
      ([0#8, 0#8] : List Byte) ≠ word2 (checkOf ([1#8, 1#8, 0x10#8] ++ [])) := by decide +kernel

/-- A transaction for sign 1 in its window, the transfer in this state, S2 with this score. -/
def carrying (job : Job) (transfer : TransferState) (restart : Bool) (score : Nat) : State :=
  { running with
    bus := { State.reset.bus with transaction := some ⟨1, job, [], some 0, 0, false, false⟩ }
    stations := running.stations.set 1 { Station.fresh with state := some .polling, score := score }
    signs := running.signs.set 0 { Sign.fresh 8 8 with transfer := transfer, chunk := some 0, restart := restart } }

/-- A CHUNK of sign 2 in flight on the station that sign 1 has taken, sign 2 moved to another with a restart pending. -/
def outpaced (score : Nat) : State :=
  let s := carrying (.chunk 1 0) .sending false score
  { s with
    committed := some { junction with signs := junction.signs.set 1 ⟨some 2, 8, 8, .d1⟩ }
    signs := s.signs.set 1 { Sign.fresh 8 8 with transfer := .sending, chunk := some 0, restart := true } }

/-- A loss met by the outcome of a transaction for another sign, and by one of a poll. -/
theorem witness_OutcomesMoveTheTransfer_loss :
    (let s := outpaced 250
     s.bus.transaction = some ⟨1, .chunk 1 0, [], some 0, 0, false, false⟩ ∧ (s.cfg.signs.get 0).station = some 1 ∧
       (∀ m, (s.cfg.signs.get m).station = some 1 → m = 0) ∧ (s.cfg.stations.get 1).kind = .sign ∧
       (s.stations.get 1).state = some .polling ∧ react s = none ∧ (s.signs.get 0).transfer = .sending ∧
       255 < (s.stations.get 1).score + 8 ∧ (s.signs.get 1).restart = true ∧
       (s.cfg.signs.get 1).station ≠ some 1) ∧
      Job.poll.sign = none ∧ (Job.flip 0).sign = some 0 ∧
      ((carrying .poll .suspended true 250).signs.get 0).transfer = .suspended := by decide +kernel

theorem witness_OutcomesMoveTheTransfer :
    (let s := carrying (.chunk 0 0) .sending false 0
     s.bus.transaction = some ⟨1, .chunk 0 0, [], some 0, 0, false, false⟩ ∧ (s.cfg.signs.get 0).station = some 1 ∧
       (∀ m, (s.cfg.signs.get m).station = some 1 → m = 0) ∧ (s.cfg.stations.get 1).kind = .sign ∧
       (s.stations.get 1).state = some .polling ∧ (s.signs.get 0).restart = false ∧
       (s.signs.get 0).transfer = .sending ∧ (s.stations.get 1).retries < 2 ∧ (s.stations.get 1).score + 8 ≤ 255 ∧
       react s = none) ∧
      (carrying (.flip 0) .sending false 0).bus.transaction = some ⟨1, .flip 0, [], some 0, 0, false, false⟩ ∧
      ((carrying .poll .suspended true 250).signs.get 0).restart = true ∧
      255 < ((carrying .poll .sending false 250).stations.get 1).score + 8 := by decide +kernel

theorem witness_DetectorEventsMoveTheirChannel :
    (polled 0).bus.transaction = some ⟨0, .poll, [], some 8, 0, false, false⟩ ∧
      ((polled 0).stuckLimit ⟨0, 0⟩).isSome = true ∧ (polled 0).stuckLimit ⟨0, 1⟩ = none ∧
      (let s := (State.putChannel (polled 0) ⟨0, 0⟩
         { Channel.fresh with state := .occupied, occupiedSince := some 0xFFFFFFFF })
       let u := { s with clock := ⟨60, 599, 0⟩ }
       u.stuckLimit ⟨0, 0⟩ = some 1 ∧ (u.channel ⟨0, 0⟩).occupiedSince = some 0xFFFFFFFF ∧
         (u.channel ⟨0, 0⟩).state = .occupied ∧ 600 * 1 ≤ (u.clock.tenths - 0xFFFFFFFF).toNat) := by decide +kernel

/-- A poll of S1 in flight, with this entry first in the acceptance table and S1/1 in this state. -/
def mapped (e : AcceptEntry) (state : DetState) : State :=
  let c : Configuration := { junction with
    accept := Configuration.blank.accept.set 0 e
    preempt := junction.preempt.map fun r => { r with delay := 20 } }
  let s : State := { polled 0 with committed := some c }
  s.putChannel ⟨0, 0⟩ { Channel.fresh with
    state := state
    cause := if state = .failed then some .chFault else none
    occupiedSince := if state = .occupied then some 0 else none
    named := if state = .failed then some (.groups [0]) else none }

/-- An entry for S1/1 and every kind of event. -/
def entryOf (action : Action) (groups : List GroupId) (channel : Option PreemptId) : AcceptEntry :=
  ⟨action, 0, 0, [0], [.occupy, .vacate, .pulse, .press, .chFault, .chOk], groups, channel⟩

theorem witness_mapped (e : AcceptEntry) (state : DetState) :
    (mapped e state).cfg.accept.cells = [] ++ e :: List.replicate 47 AcceptEntry.blank := by
  cases state <;> rfl

theorem witness_MatchedEventsReachTheirGroups :
    (∀ a ∈ [Action.call, .extend, .callExtend, .ped],
      let s := mapped (entryOf a [2] none) .idle
      s.bus.transaction = some ⟨0, .poll, [], some 8, 0, false, false⟩ ∧ react s = none ∧
        (s.stuckLimit ⟨0, 0⟩).isSome = true ∧ (s.channel ⟨0, 0⟩).state = .idle ∧
        (entryOf a [2] none).action ≠ .empty ∧ (s.groupCfg 2).extUnit ≠ 0 ∧ s.kind 2 ≠ .unused) ∧
      (let s := mapped (entryOf .call [0] none) .occupied
       react s = none ∧ (s.channel ⟨0, 0⟩).state = .occupied ∧
         ∀ g, (s.groupCfg g).extUnit ≠ 0 ∨ (s.groups.get g).minGreenPassed = false) := by decide +kernel

/-- P1 PENDING for a train on S1/1. -/
def waitingTrain : State :=
  (mapped (entryOf .preempt [] (some 0)) .occupied).putPreempt 0
    { Preempt.fresh with state := .pending, sources := [(⟨0, 0⟩, .occupied)] }

theorem witness_mapped_laws (a : Action) (groups : List GroupId) (p : Option PreemptId) (state : DetState) :
    SequenceLaw (mapped (entryOf a groups p) state) ∧ (mapped (entryOf a groups p) state).calm ∧
      FaultLaw (mapped (entryOf a groups p) state) := by
  have h : SequenceLaw running ∧ running.calm ∧ FaultLaw running :=
    ⟨by unfold SequenceLaw State.calm; decide +kernel, by unfold State.calm; decide +kernel,
      by unfold FaultLaw; decide +kernel⟩
  exact h

theorem witness_waitingTrain : SequenceLaw waitingTrain ∧ waitingTrain.calm := by
  unfold SequenceLaw State.calm; decide +kernel

theorem witness_MatchedEventsReachPreemptionAndHost :
    (let s := mapped (entryOf .preempt [] (some 0)) .idle
     s.bus.transaction = some ⟨0, .poll, [], some 8, 0, false, false⟩ ∧ react s = none ∧
       (s.stuckLimit ⟨0, 0⟩).isSome = true ∧ (s.channel ⟨0, 0⟩).state ≠ .failed ∧
       (∀ g, (⟨0, 0⟩, .occupied) ∉ (s.demand.get g).hold) ∧ (s.preempt.get 0).state = .idle ∧
       (s.preempt.get 0).sources = [] ∧ s.mode.mode = .run ∧ (s.cfg.preempt.get 0).delay ≠ 0) ∧
      (let s := waitingTrain
       react s = none ∧ (s.preempt.get 0).sources ≠ [] ∧ (s.preempt.get 0).state = .pending) ∧
      react (mapped (entryOf .forward [] none) .idle) = none ∧
      react (mapped (entryOf .discard [] none) .idle) = none ∧
      ∀ e ∈ (mapped AcceptEntry.blank .idle).cfg.accept.cells, e.action = .empty := by
  decide +kernel

theorem witness_FailuresStandInForTheirChannel :
    (let s := mapped (entryOf .call [0, 1] none) .occupied
     (s.stuckLimit ⟨0, 0⟩).isSome = true ∧ s.committed.isSome = true ∧ react s = none ∧
       (∀ g, (s.groupCfg g).extUnit ≠ 0 ∨ (s.groups.get g).minGreenPassed = false) ∧
       (∀ p, (s.cfg.preempt.get p).delay ≠ 0) ∧ s.bus.transaction.map (·.station) = some 0 ∧
       (s.channel ⟨0, 0⟩).state ≠ .failed ∧ (∀ g ∈ ([0, 1] : List GroupId), s.kind g ≠ .unused) ∧
       { s with clock := ⟨60, 600, 0⟩ }.stuck ⟨0, 0⟩ = true) ∧
      ((entryOf .preempt [] (some 0)).action = .preempt ∧ (entryOf .forward [] none).action = .forward ∧
        ∀ e ∈ (mapped AcceptEntry.blank .idle).cfg.accept.cells, e.action = .empty) ∧
      (let s := mapped (entryOf .call [0] none) .failed
       react s = none ∧ (s.channel ⟨0, 0⟩).state = .failed ∧
         (s.channel ⟨0, 0⟩).named = some (.groups [0]) ∧ ([0] : List GroupId).Nodup) := by
  decide +kernel

/-! ### States that meet the laws, with a step from each -/

theorem witness_steps : ∃ t, step running = .next t := ⟨tick running, by rfl⟩

theorem witness_LinkLaw : LinkLaw (busyState none [⟨0, .linkError 1⟩]) := by
  refine ⟨by decide, by decide +kernel, by decide, by decide, by decide, by decide, ?_, ?_, ?_⟩
  · intro p h; cases h; decide
  · intro r h; exact ⟨busy, rfl, by cases h; rfl⟩
  · intro h; cases h

theorem witness_FaultLaw : FaultLaw (failed .latched) := witness_FaultsAreClearedOrRefused_reset.1

theorem witness_RedOutLaw :
    RedOutLaw (reddening .red .ok .flash) ∧ RedOutLaw (reddening .clear .low .flash) ∧
      RedOutLaw (reddened .run) ∧ FaultLaw (reddened .run) := by
  unfold RedOutLaw FaultLaw; decide +kernel

theorem witness_RedOutLaw_modes : ModeLaw (failed .latched) ∧ FaultLaw (failed .latched) ∧ RedOutLaw (failed .latched) :=
  ⟨witness_FaultsAreClearedOrRefused_reset.2, witness_FaultsAreClearedOrRefused_reset.1, by
    unfold RedOutLaw; decide +kernel⟩

theorem witness_ModeLaw : ModeLaw (green .held true) := by unfold ModeLaw; decide +kernel

theorem witness_GreenLaw : GreenLaw (green .held true) := by unfold GreenLaw; decide +kernel

theorem witness_LampLaw : LampLaw (green .held true) := by
  intro g c; cases c <;> revert g <;> decide +kernel

/-- The two further occurrences of a SHORT_CLEAR. -/
theorem witness_OccurrencesFindTheirRecord_short :
    (let s := withFaults (measuring .armed) [] []
     FaultLaw s ∧ s.stands .shortClear ⟨1, 0⟩ = false ∧ (s.output 0 .red).sensed = false ∧
       (s.output 0 .red).commanded = .on ∧ (s.output 0 .red).standing = false ∧
       200 < 100 * (s.groupCfg 0).clearTime) ∧
      (let s := withFaults (bothSensed 3) [] []
       FaultLaw s ∧ (s.output 0 .green).sensed = true ∧ (s.output 0 .green).standing = false ∧
         (s.output 0 .red).sensed = true ∧ (s.output 0 .red).commanded = .on ∧
         (s.groups.get 0).state ≠ .flash ∧ (s.groups.get 0).state ≠ .off ∧ s.kind 0 ≠ .unused ∧
         s.monitor.overlaps = [] ∧ 200 < 100 * (s.groupCfg 0).clearTime) := by
  unfold FaultLaw; decide +kernel

theorem witness_ConflictLaw : ConflictLaw (green .held true) := by unfold ConflictLaw; decide +kernel

theorem witness_QueueLaw : QueueLaw { green .held true with queue := [⟨1, .host, .held, none, 0⟩] } := by
  refine ⟨by decide, by decide +kernel, by unfold Configuration.tracksDistinct; decide +kernel, ?_⟩
  intro w h; cases h

theorem witness_StationLaw : StationLaw (polled 0) := by
  refine ⟨by unfold Station.lawful; decide +kernel, ?_⟩
  intro t h _; cases h; decide +kernel

theorem witness_ChannelLaw : ChannelLaw running := by
  have h : ∀ (st : StationId) (n : ChannelNo),
      ((running.channel ⟨st, n⟩).cause.isSome = true ↔ (running.channel ⟨st, n⟩).state = .failed) ∧
        ((running.channel ⟨st, n⟩).occupiedSince.isSome = true ↔ (running.channel ⟨st, n⟩).state = .occupied) ∧
        ((running.channel ⟨st, n⟩).named.isSome = true → (running.channel ⟨st, n⟩).state = .failed) ∧
        (running.channel ⟨st, n⟩).pulses ≤ 65535 ∧
        (running.fitted ⟨st, n⟩ = false → (running.channel ⟨st, n⟩).state = .idle) := by decide +kernel
  rintro ⟨st, n⟩
  exact h st n
end Sys2Proof.Tests
end

section
/-! What a CFG_ request answers and stores, for any edit of the working configuration,
and CFG_GROUP (R4). -/

namespace Sys2Proof.Machine

/-! ### Numbers of objects, ranges and counts -/

@[simp] theorem objectOf_succ {n : Nat} (x : Fin n) : objectOf n (x.val + 1) = some x := by
  have inRange : 1 ≤ x.val + 1 ∧ x.val + 1 ≤ n := ⟨by omega, x.isLt⟩
  simp [objectOf, inRange]

theorem objectOf_eq_none_iff (n number : Nat) : objectOf n number = none ↔ ¬(1 ≤ number ∧ number ≤ n) := by
  simp [objectOf]

theorem clampTo_eq_max_min {low high : Nat} (h : low ≤ high) (value : Nat) :
    clampTo low high value = max low (min high value) := by
  unfold clampTo
  split
  · omega
  · split <;> omega

theorem clampTo_zero (high value : Nat) : clampTo 0 high value = min high value := by
  rw [clampTo_eq_max_min (Nat.zero_le high), Nat.zero_max]

/-! ### A CFG_ request of any kind -/

theorem editing_of_not_configure (edit : Configuration → Option (Nat × Configuration)) {s : State}
    (mode : s.mode.mode ≠ .configure) : editing edit s = ((.wrongMode, []), s) := by
  unfold editing
  split
  · next configure _ => exact absurd configure mode
  · rfl

theorem editing_of_refused {edit : Configuration → Option (Nat × Configuration)} {s : State} {w : Configuration}
    (mode : s.mode.mode = .configure) (working : s.working = some w) (refused : edit w = none) :
    editing edit s = ((.badIndex, []), s) := by
  simp [editing, mode, working, refused]

theorem editing_of_taken {edit : Configuration → Option (Nat × Configuration)} {s : State} {w w' : Configuration}
    {count : Nat} (mode : s.mode.mode = .configure) (working : s.working = some w)
    (taken : edit w = some (count, w')) :
    editing edit s = ((if count = 0 then .ok else .clamped, if count = 0 then [] else byte1 count),
      { s with working := some w' }) := by
  simp only [editing, mode, working, taken]
  split <;> rfl

theorem validFrame_working (s : State) : (validFrame s).working = s.working :=
  (validFrame_effect s).working (by decide)

/-! A request that is an edit of the working configuration, on a free link with the bus settled. -/
section Edit
variable {i : Instr} {edit : Configuration → Option (Nat × Configuration)} {s : State}
  (answers : ∀ t, answer i t = editing edit t) (free : s.free) (settled : s.busSettled = true)
include answers free settled

/-- R93. -/
theorem request_edit_wrongMode (mode : s.mode.mode ≠ .configure) :
    request i s = (validFrame s).replied i .wrongMode [] :=
  request_reported i s _ _ free
    ((answers _).trans (editing_of_not_configure edit (by rwa [validFrame_mode]))) settled

theorem request_edit_badIndex {w : Configuration} (mode : s.mode.mode = .configure) (working : s.working = some w)
    (refused : edit w = none) : request i s = (validFrame s).replied i .badIndex [] :=
  request_reported i s _ _ free
    ((answers _).trans
      (editing_of_refused (by rwa [validFrame_mode]) (by rwa [validFrame_working]) refused)) settled

/-- The working configuration is replaced, and the count of values brought within range is reported. -/
theorem request_edit_taken {w w' : Configuration} {count : Nat} (mode : s.mode.mode = .configure)
    (working : s.working = some w) (taken : edit w = some (count, w')) :
    request i s = State.replied { validFrame s with working := some w' } i
      (if count = 0 then .ok else .clamped) (if count = 0 then [] else byte1 count) :=
  request_answered i s _ _ _ free
    ((answers _).trans
      (editing_of_taken (by rwa [validFrame_mode]) (by rwa [validFrame_working]) taken))
    ((busSettled_congr (validFrame s) _ rfl rfl rfl rfl).trans ((validFrame_busSettled s).trans settled))

end Edit

/-! ### CFG_GROUP (R4) -/

theorem exec_cfgGroup (g : Nat) (k : Option Kind) (a b c d e f : Nat) (s : State) :
    exec (.cfgGroup g k a b c d e f) s = .next (request (.cfgGroup g k a b c d e f) s) := rfl

theorem answer_cfgGroup (g : Nat) (k : Option Kind) (a b c d e f : Nat) (s : State) :
    answer (.cfgGroup g k a b c d e f) s = editing (editGroup g k a b c d e f) s := rfl

theorem editGroup_eq_none {g : Nat} {k : Option Kind} (outside : ¬(1 ≤ g ∧ g ≤ 24) ∨ k = none)
    (a b c d e f : Nat) (w : Configuration) : editGroup g k a b c d e f w = none := by
  rcases outside with number | rfl
  · simp [editGroup, (objectOf_eq_none_iff 24 g).mpr number]
  · cases h : objectOf 24 g <;> simp [editGroup, h]

/-- How many of the six timings differ from those sent. -/
def groupChanges (r : GroupCfg) (a b c d e f : Nat) : Nat :=
  (if r.minGreen = a then 0 else 1) + (if r.maxGreen = b then 0 else 1) + (if r.extUnit = c then 0 else 1) +
    (if r.clearTime = d then 0 else 1) + (if r.prepTime = e then 0 else 1) + (if r.minRed = f then 0 else 1)

theorem changedCount_group (r : GroupCfg) (a b c d e f : Nat) :
    changedCount [(a, r.minGreen), (b, r.maxGreen), (c, r.extUnit), (d, r.clearTime), (e, r.prepTime),
      (f, r.minRed)] = groupChanges r a b c d e f := by
  simp only [changedCount, groupChanges, eq_comm, Nat.add_assoc, Nat.add_zero]

theorem editGroup_of_known (x : GroupId) (kind : Kind) (a b c d e f : Nat) (w : Configuration) :
    editGroup (x.val + 1) (some kind) a b c d e f w =
      some (groupChanges (clampGroup kind a b c d e f) a b c d e f,
        { w with groups := w.groups.set x (clampGroup kind a b c d e f) }) := by
  simp only [editGroup, objectOf_succ, changedCount_group]

/-- The ranges of R4: MAX_GREEN is brought up to the MIN_GREEN that is stored. -/
theorem clampGroup_eq (kind : Kind) (a b c d e f : Nat) :
    clampGroup kind a b c d e f =
      ⟨kind, max 20 (min 600 a), max (max 20 (min 600 a)) (max 20 (min 2500 b)), min 100 c,
        if kind = .pedestrian then max 20 (min 200 d) else max 30 (min 60 d), min 30 e, min 100 f⟩ := by
  simp only [clampGroup, clampTo_zero, clampTo_eq_max_min (show 20 ≤ 600 by decide),
    clampTo_eq_max_min (show 20 ≤ 2500 by decide), clampTo_eq_max_min (show 20 ≤ 200 by decide),
    clampTo_eq_max_min (show 30 ≤ 60 by decide)]

/-- Settles O10: CFG_GROUP is an edit of the working configuration, refused or taken as R4 says. -/
theorem cfgGroupClampsAndStores : Obligations.CfgGroupClampsAndStores := by
  unfold Obligations.CfgGroupClampsAndStores
  intro g k a b c d e f s free settled
  have answers := answer_cfgGroup g k a b c d e f
  simp only [exec_cfgGroup]
  refine ⟨fun mode => ?wrongMode, fun w mode working => ⟨fun outside => ?badIndex, ?taken⟩⟩
  case wrongMode => rw [request_edit_wrongMode answers free settled mode]
  case badIndex =>
    rw [request_edit_badIndex answers free settled mode working (editGroup_eq_none outside a b c d e f w)]
  case taken =>
    rintro x kind rfl rfl
    rw [request_edit_taken answers free settled mode working (editGroup_of_known x kind a b c d e f w),
      clampGroup_eq]
    rfl

end Sys2Proof.Machine
end

section
/-! CFG_MATRIX_ROW (R26): the numbers named by the pairs, the row they give, and the edit of the matrix. -/

namespace Sys2Proof.Machine

/-! ### Lists of numbers -/

theorem objectOf_eq_some_iff {n : Nat} (number : Nat) (x : Fin n) :
    objectOf n number = some x ↔ number = numberOf x := by
  constructor
  · intro named
    obtain ⟨inRange, rfl⟩ := by simpa [objectOf] using named
    exact (Nat.sub_add_cancel inRange.1).symm
  · rintro rfl
    exact objectOf_succ x

theorem numberOf_inj {n : Nat} {x y : Fin n} : numberOf x = numberOf y ↔ x = y :=
  ⟨fun same => Fin.ext (Nat.succ.inj same), congrArg numberOf⟩

theorem numberOf_beq {n : Nat} (x y : Fin n) : (numberOf x == numberOf y) = (x == y) := by
  rw [Bool.eq_iff_iff, beq_iff_eq, beq_iff_eq, numberOf_inj]

theorem nodup_map_numberOf {n : Nat} (xs : List (Fin n)) : (xs.map numberOf).Nodup ↔ xs.Nodup := by
  simp only [List.Nodup, List.pairwise_map, ne_eq, numberOf_inj]

theorem objectsOf_eq_some_iff {n : Nat} (numbers : List Nat) (xs : List (Fin n)) :
    objectsOf n numbers = some xs ↔ numbers = xs.map numberOf := by
  induction numbers generalizing xs with
  | nil => cases xs <;> simp [objectsOf]
  | cons k rest ih =>
    cases xs with
    | nil => simp only [objectsOf]; split <;> simp
    | cons y ys =>
      rw [List.map_cons, List.cons.injEq, ← objectOf_eq_some_iff, ← ih]
      simp only [objectsOf]
      split
      · next first others => simp [first, others]
      · next missing => simpa using missing y ys

theorem allDistinct_iff_nodup {α : Type} [DecidableEq α] (l : List α) : allDistinct l = true ↔ l.Nodup := by
  induction l with
  | nil => simp [allDistinct]
  | cons a rest ih => simp [allDistinct, ih]

/-! ### CFG_MATRIX_ROW (R26) -/

/-- A pair as a request carries it: the number of the group, and the time. -/
def sentPair (p : GroupId × Nat) : Nat × Nat := (numberOf p.1, p.2)

theorem map_fst_map_sentPair (pairs : List (GroupId × Nat)) :
    (pairs.map sentPair).map Prod.fst = (pairs.map Prod.fst).map numberOf := by
  simp [sentPair]

/-- Pairs whose numbers are all in range name groups. -/
theorem exists_map_sentPair {l : List (Nat × Nat)} (inRange : ∀ p ∈ l, 1 ≤ p.1 ∧ p.1 ≤ 24) :
    ∃ pairs : List (GroupId × Nat), pairs.map sentPair = l := by
  induction l with
  | nil => exact ⟨[], rfl⟩
  | cons p rest ih =>
    obtain ⟨low, high⟩ := inRange p List.mem_cons_self
    obtain ⟨pairs, rfl⟩ := ih fun q member => inRange q (List.mem_cons_of_mem p member)
    have first : sentPair (⟨p.1 - 1, by omega⟩, p.2) = p := Prod.ext (Nat.sub_add_cancel low) rfl
    exact ⟨(⟨p.1 - 1, by omega⟩, p.2) :: pairs, by rw [List.map_cons, first]⟩

theorem matrixTime_set_rowOf (m : Bank 24 (Bank 24 (Option Nat))) (x j : GroupId) (pairs : List (GroupId × Nat)) :
    matrixTime (m.set x (rowOf pairs)) x j =
      ((pairs.map sentPair).find? fun p => p.1 == numberOf j).map Prod.snd := by
  have sameTest : (fun p => p.1 == numberOf j) ∘ sentPair = fun p : GroupId × Nat => p.1 == j :=
    funext fun p => numberOf_beq p.1 j
  rw [List.find?_map, sameTest, Option.map_map]
  simp only [matrixTime, Bank.get_set_same, rowOf, Bank.get_tab]
  rfl

theorem editRow_eq_none {g : Nat} {l : List (Nat × Nat)}
    (outside : ¬(1 ≤ g ∧ g ≤ 24) ∨ (∃ p ∈ l, ¬(1 ≤ p.1 ∧ p.1 ≤ 24) ∨ 250 < p.2) ∨ ¬(l.map Prod.fst).Nodup)
    (w : Configuration) : editRow g l w = none := by
  unfold editRow
  split
  · next i js group numbers =>
    rw [objectOf_eq_some_iff] at group
    rw [objectsOf_eq_some_iff] at numbers
    refine if_neg fun accepted => ?_
    obtain ⟨distinct, short⟩ := (Bool.and_eq_true _ _).mp accepted
    rcases outside with number | ⟨p, member, far | long⟩ | twice
    · exact number (group ▸ ⟨Nat.succ_pos _, i.isLt⟩)
    · obtain ⟨j, -, name⟩ := List.mem_map.mp (numbers ▸ List.mem_map_of_mem (f := Prod.fst) member)
      exact far (name ▸ ⟨Nat.succ_pos _, j.isLt⟩)
    · have within : p.2 ≤ 250 := of_decide_eq_true (List.all_eq_true.mp short p member)
      omega
    · rw [numbers, nodup_map_numberOf, ← allDistinct_iff_nodup] at twice
      exact twice distinct
  · rfl

theorem editRow_of_named (x : GroupId) {pairs : List (GroupId × Nat)} (distinct : (pairs.map Prod.fst).Nodup)
    (short : ∀ p ∈ pairs, p.2 ≤ 250) (w : Configuration) :
    editRow (numberOf x) (pairs.map sentPair) w =
      some (0, { w with matrix := w.matrix.set x (rowOf pairs) }) := by
  have groups : objectsOf 24 ((pairs.map sentPair).map Prod.fst) = some (pairs.map Prod.fst) :=
    (objectsOf_eq_some_iff _ _).mpr (map_fst_map_sentPair pairs)
  have times : (pairs.map sentPair).map Prod.snd = pairs.map Prod.snd := by simp [sentPair]
  have within : ((pairs.map sentPair).all fun p => p.2 ≤ Config.intergreenLimit) = true :=
    List.all_eq_true.mpr (List.forall_mem_map.mpr fun p member => decide_eq_true (short p member))
  simp only [editRow, (objectOf_eq_some_iff _ x).mpr rfl, groups, times, (allDistinct_iff_nodup _).mpr distinct,
    within, Bool.and_self, if_true, ← List.zip_of_prod rfl rfl]

theorem exec_cfgMatrixRow (g : Nat) (l : List (Nat × Nat)) (s : State) :
    exec (.cfgMatrixRow g l) s = .next (request (.cfgMatrixRow g l) s) := rfl

theorem answer_cfgMatrixRow (g : Nat) (l : List (Nat × Nat)) (s : State) :
    answer (.cfgMatrixRow g l) s = editing (editRow g l) s := rfl

/-- Settles O11: CFG_MATRIX_ROW is an edit of the working configuration, refused or taken as R26 says; what it takes
writes one row of the matrix, so the other rows stand. -/
theorem cfgMatrixRowReplacesTheRow : Obligations.CfgMatrixRowReplacesTheRow := by
  unfold Obligations.CfgMatrixRowReplacesTheRow
  intro g l s free settled
  have answers := answer_cfgMatrixRow g l
  simp only [exec_cfgMatrixRow]
  refine ⟨fun mode => ?wrongMode, fun w mode working => ⟨fun outside => ?badIndex, ?taken⟩⟩
  case wrongMode => rw [request_edit_wrongMode answers free settled mode]
  case badIndex => rw [request_edit_badIndex answers free settled mode working (editRow_eq_none outside w)]
  case taken =>
    rintro x rfl inRange distinct
    obtain ⟨pairs, rfl⟩ := exists_map_sentPair fun p member => ⟨(inRange p member).1, (inRange p member).2.1⟩
    rw [map_fst_map_sentPair, nodup_map_numberOf] at distinct
    have short : ∀ p ∈ pairs, p.2 ≤ 250 := fun p member => (inRange _ (List.mem_map_of_mem member)).2.2
    refine ⟨w.matrix.set x (rowOf pairs), ?_, fun j => matrixTime_set_rowOf w.matrix x j pairs,
      fun y other => Bank.get_set_other _ _ _ _ other.symm⟩
    rw [request_edit_taken answers free settled mode working (editRow_of_named x distinct short w)]
    rfl

end Sys2Proof.Machine
end

section
/-! CFG_PREEMPT (R68): an index with 0 for absent, and the edit of a channel's record. -/

namespace Sys2Proof.Machine

/-! ### Lists in range and an index with 0 for absent -/

theorem inRange_of_mem_map_numberOf {n number : Nat} {xs : List (Fin n)} (member : number ∈ xs.map numberOf) :
    1 ≤ number ∧ number ≤ n := by
  obtain ⟨x, -, rfl⟩ := List.mem_map.mp member
  exact ⟨Nat.succ_pos _, x.isLt⟩

theorem maybeObject_of_le {n number : Nat} (h : number ≤ n) : maybeObject n number = some (objectOf n number) := by
  unfold maybeObject objectOf
  split
  · next absent => simp [absent]
  · next present => simp [Nat.one_le_iff_ne_zero.mpr present, h]

theorem maybeObject_of_lt {n number : Nat} (h : n < number) : maybeObject n number = none := by
  have present : number ≠ 0 := by omega
  have outside : objectOf n number = none := (objectOf_eq_none_iff n number).mpr (by omega)
  simp [maybeObject, present, outside]

/-! ### CFG_PREEMPT (R68) -/

/-- The record that R68 stores, its four times brought within Table 4-1. -/
def clampPreempt (a b c d : Nat) (track dwell : List GroupId) (sign : Option SignId) (flag : Bool) : PreemptCfg :=
  ⟨min 300 a, min 600 b, track, min 600 c, dwell, min 1200 d, sign, flag⟩

/-- How many of the four times differ from those sent. -/
def preemptChanges (r : PreemptCfg) (a b c d : Nat) : Nat :=
  (if r.delay = a then 0 else 1) + (if r.preemptMin = b then 0 else 1) + (if r.trackTime = c then 0 else 1) +
    (if r.dwellMin = d then 0 else 1)

theorem changedCount_preempt (r : PreemptCfg) (a b c d : Nat) :
    changedCount [(a, r.delay), (b, r.preemptMin), (c, r.trackTime), (d, r.dwellMin)] =
      preemptChanges r a b c d := by
  simp only [changedCount, preemptChanges, eq_comm, Nat.add_assoc, Nat.add_zero]

theorem preemptLists_accepted_iff (t e : List GroupId) :
    (decide (t.length ≤ 4) && decide (e.length ≤ 8) && allDistinct t && allDistinct e) = true ↔
      t.length ≤ 4 ∧ e.length ≤ 8 ∧ t.Nodup ∧ e.Nodup := by
  simp only [Bool.and_eq_true, decide_eq_true_eq, allDistinct_iff_nodup, and_assoc]

theorem editPreempt_eq_none {p : Nat} {t e : List Nat} {n : Nat} {f : Option Bool}
    (outside : ¬(1 ≤ p ∧ p ≤ 4) ∨ 4 < t.length ∨ 8 < e.length ∨ (∃ x ∈ t ++ e, ¬(1 ≤ x ∧ x ≤ 24)) ∨ ¬t.Nodup ∨
      ¬e.Nodup ∨ 4 < n ∨ f = none) (a b c d : Nat) (w : Configuration) :
    editPreempt p a b c d t e n f w = none := by
  unfold editPreempt
  split
  · next x track dwell sign flag channel tracks dwells signs =>
    rw [objectOf_eq_some_iff] at channel
    rw [objectsOf_eq_some_iff] at tracks dwells
    subst channel tracks dwells
    refine if_neg fun accepted => ?_
    obtain ⟨trackShort, dwellShort, trackDistinct, dwellDistinct⟩ :=
      (preemptLists_accepted_iff track dwell).mp accepted
    rcases outside with number | long | long | ⟨k, member, far⟩ | twice | twice | noSign | noFlag
    · exact number ⟨Nat.succ_pos _, x.isLt⟩
    · exact absurd trackShort (by simpa using long)
    · exact absurd dwellShort (by simpa using long)
    · rw [← List.map_append] at member
      exact far (inRange_of_mem_map_numberOf member)
    · exact twice ((nodup_map_numberOf track).mpr trackDistinct)
    · exact twice ((nodup_map_numberOf dwell).mpr dwellDistinct)
    · simp [maybeObject_of_lt noSign] at signs
    · cases noFlag
  · rfl

theorem editPreempt_of_named (x : PreemptId) {track dwell : List GroupId} {n : Nat} (trackShort : track.length ≤ 4)
    (dwellShort : dwell.length ≤ 8) (trackDistinct : track.Nodup) (dwellDistinct : dwell.Nodup) (sign : n ≤ 4)
    (flag : Bool) (a b c d : Nat) (w : Configuration) :
    let record := clampPreempt a b c d track dwell (objectOf 4 n) flag
    editPreempt (x.val + 1) a b c d (track.map numberOf) (dwell.map numberOf) n (some flag) w =
      some (preemptChanges record a b c d, { w with preempt := w.preempt.set x record }) := by
  have tracks := (objectsOf_eq_some_iff _ track).mpr rfl
  have dwells := (objectsOf_eq_some_iff _ dwell).mpr rfl
  have accepted :=
    (preemptLists_accepted_iff track dwell).mpr ⟨trackShort, dwellShort, trackDistinct, dwellDistinct⟩
  intro record
  rw [← changedCount_preempt]
  simp only [editPreempt, objectOf_succ, tracks, dwells, maybeObject_of_le sign, accepted, if_true, clampTo_zero,
    record, clampPreempt]

theorem exec_cfgPreempt (p a b c d : Nat) (t e : List Nat) (n : Nat) (f : Option Bool) (s : State) :
    exec (.cfgPreempt p a b c d t e n f) s = .next (request (.cfgPreempt p a b c d t e n f) s) := rfl

theorem answer_cfgPreempt (p a b c d : Nat) (t e : List Nat) (n : Nat) (f : Option Bool) (s : State) :
    answer (.cfgPreempt p a b c d t e n f) s = editing (editPreempt p a b c d t e n f) s := rfl

/-- Settles O12: CFG_PREEMPT is an edit of the working configuration, refused or taken as R68 says. -/
theorem cfgPreemptClampsAndStores : Obligations.CfgPreemptClampsAndStores := by
  unfold Obligations.CfgPreemptClampsAndStores
  intro p a b c d t e n f s free settled
  have answers := answer_cfgPreempt p a b c d t e n f
  simp only [exec_cfgPreempt]
  refine ⟨fun mode => ?wrongMode, fun w mode working => ⟨fun outside => ?badIndex, ?taken⟩⟩
  case wrongMode => rw [request_edit_wrongMode answers free settled mode]
  case badIndex =>
    rw [request_edit_badIndex answers free settled mode working (editPreempt_eq_none outside a b c d w)]
  case taken =>
    rintro x track dwell flag rfl rfl rfl trackShort dwellShort trackDistinct dwellDistinct sign rfl
    have taken := editPreempt_of_named x trackShort dwellShort trackDistinct dwellDistinct sign flag a b c d w
    rw [request_edit_taken answers free settled mode working taken]
    rfl

end Sys2Proof.Machine
end

section
/-! SIGN_WINDOW (R180): the sign that a request names, the bounds it stores, and the arbiter's blindness to windows. -/

namespace Sys2Proof.Machine

/-! ### The sign that a request names -/

theorem signNamed_of_outside (s : State) {sign : Nat} (outside : ¬(1 ≤ sign ∧ sign ≤ 4)) :
    s.signNamed sign = none := by
  simp only [State.signNamed, (objectOf_eq_none_iff 4 sign).mpr outside]

theorem signNamed_of_unconfigured {s : State} {n : SignId} (station : (s.cfg.signs.get n).station = none) :
    s.signNamed (n.val + 1) = none := by
  simp [State.signNamed, station]

theorem signNamed_of_configured {s : State} {n : SignId} (station : (s.cfg.signs.get n).station ≠ none) :
    s.signNamed (n.val + 1) = some n := by
  simp [State.signNamed, Option.isSome_iff_ne_none, station]

theorem validFrame_signNamed (s : State) (sign : Nat) : (validFrame s).signNamed sign = s.signNamed sign := by
  simp only [State.signNamed, validFrame_cfg]

theorem validFrame_signs (s : State) : (validFrame s).signs = s.signs := (validFrame_effect s).signs (by decide)

/-! ### What the arbiter reads of a sign (R147) -/

theorem transfer_putSign {s : State} {n : SignId} {r : Sign} (same : r.transfer = (s.signs.get n).transfer)
    (m : SignId) : ((s.putSign n r).signs.get m).transfer = (s.signs.get m).transfer := by
  rw [State.putSign_signs, Bank.get_set]
  split
  · next here => rw [same, here]
  · rfl

theorem nextSign_putSign {s : State} {n : SignId} {r : Sign} (same : r.transfer = (s.signs.get n).transfer) :
    nextSign (s.putSign n r) = nextSign s := by
  simp only [nextSign, transfer_putSign same]
  rfl

/-- Of the record of a sign the arbiter reads the transfer alone. -/
theorem busSettled_putSign {s : State} {n : SignId} {r : Sign} (same : r.transfer = (s.signs.get n).transfer) :
    (s.putSign n r).busSettled = s.busSettled := by
  simp only [State.busSettled, nextSign_putSign same]
  rfl

/-! ### SIGN_WINDOW (R180) -/

theorem windowChanges_eq (w : Window) (c0 c1 r0 r1 : Nat) :
    windowChanges w c0 c1 r0 r1 = (if min c0 c1 = w.c0 then 0 else 1) + (if max c0 c1 = w.c1 then 0 else 1) +
      (if min r0 r1 = w.r0 then 0 else 1) + (if max r0 r1 = w.r1 then 0 else 1) := by
  simp only [windowChanges, changedCount, Nat.add_assoc, Nat.add_zero]

theorem requestWindow_of_unnamed {s : State} {sign : Nat} {page : Option WritePage}
    (unnamed : s.signNamed sign = none ∨ page = none) (c0 c1 r0 r1 : Nat) :
    requestWindow sign page c0 c1 r0 r1 s = ((.badIndex, []), s) := by
  unfold requestWindow
  split
  · next named => simp [named] at unnamed
  · rfl

theorem requestWindow_of_named {s : State} {sign : Nat} {n : SignId} (named : s.signNamed sign = some n)
    (p : WritePage) (c0 c1 r0 r1 : Nat) :
    let w := windowOf p (s.cfg.signs.get n).width (s.cfg.signs.get n).height c0 c1 r0 r1
    let count := windowChanges w c0 c1 r0 r1
    requestWindow sign (some p) c0 c1 r0 r1 s =
      ((if count = 0 then .ok else .clamped, (if count = 0 then [] else byte1 count) ++ bytesOfBounds w),
        s.putSign n { s.signs.get n with window := w }) := by
  intro w count
  simp only [requestWindow, named]
  split <;> rfl

theorem exec_signWindow (sign : Nat) (page : Option WritePage) (c0 c1 r0 r1 : Nat) (s : State) :
    exec (.signWindow sign page c0 c1 r0 r1) s = .next (request (.signWindow sign page c0 c1 r0 r1) s) := rfl

theorem answer_signWindow (sign : Nat) (page : Option WritePage) (c0 c1 r0 r1 : Nat) (s : State) :
    answer (.signWindow sign page c0 c1 r0 r1) s = requestWindow sign page c0 c1 r0 r1 s := rfl

/-! SIGN_WINDOW on a free link with the bus settled. -/
section Window
variable {s : State} {sign : Nat} (free : s.free) (settled : s.busSettled = true) (c0 c1 r0 r1 : Nat)
include free settled

theorem request_signWindow_badIndex {page : Option WritePage} (unnamed : s.signNamed sign = none ∨ page = none) :
    request (.signWindow sign page c0 c1 r0 r1) s =
      (validFrame s).replied (.signWindow sign page c0 c1 r0 r1) .badIndex [] :=
  request_reported _ s _ _ free
    ((answer_signWindow ..).trans (requestWindow_of_unnamed (by rwa [validFrame_signNamed]) ..)) settled

/-- The window alone is written, and the bounds stored are reported, after their count where that is not 0. -/
theorem request_signWindow_taken {n : SignId} (named : s.signNamed sign = some n) (p : WritePage) :
    let i := Instr.signWindow sign (some p) c0 c1 r0 r1
    let w := windowOf p (s.cfg.signs.get n).width (s.cfg.signs.get n).height c0 c1 r0 r1
    let count := windowChanges w c0 c1 r0 r1
    request i s = ((validFrame s).putSign n { s.signs.get n with window := w }).replied i
      (if count = 0 then .ok else .clamped) ((if count = 0 then [] else byte1 count) ++ bytesOfBounds w) := by
  intro i w count
  have answered := requestWindow_of_named ((validFrame_signNamed s sign).trans named) p c0 c1 r0 r1
  rw [validFrame_cfg, validFrame_signs] at answered
  refine request_answered i s _ _ _ free answered ?_
  rw [busSettled_putSign (by rw [validFrame_signs]), validFrame_busSettled, settled]

end Window

/-- Settles O22: a request that names no configured sign or no page is refused; any other stores the window that
`windowOf` gives, whose bounds, count and pointer are those of R180. -/
theorem signWindowOrdersAndClamps : Obligations.SignWindowOrdersAndClamps := by
  unfold Obligations.SignWindowOrdersAndClamps
  intro sign page c0 c1 r0 r1 s free settled
  simp only [exec_signWindow]
  refine ⟨fun outside => ?refused, ?named⟩
  case refused =>
    rw [request_signWindow_badIndex free settled c0 c1 r0 r1 (outside.imp_left (signNamed_of_outside s))]
  case named =>
    rintro n p rfl rfl
    refine ⟨fun station => ?unconfigured, fun station => ?taken⟩
    case unconfigured =>
      rw [request_signWindow_badIndex free settled c0 c1 r0 r1 (.inl (signNamed_of_unconfigured station))]
    case taken =>
      rw [request_signWindow_taken free settled c0 c1 r0 r1 (signNamed_of_configured station) p, windowChanges_eq]
      rfl

end Sys2Proof.Machine
end
